-- ==== Sys2Proof/Word.lean ====
section
/-! DEFINITION. The word types of the block (00_scope.md R7, R8): every value is unsigned and has a fixed width. -/

namespace Sys2Proof

/-- `VALUE_BITS` = 8 (R7): a transaction's value, one lane of a 24-bit quantity. -/
abbrev Byte := BitVec 8

/-- `ADDR_BITS` = 7 (R7): a register address of the observed target, 0..127 (R51). -/
abbrev Addr := BitVec 7

/-- `ACC_BITS` = 24 (R7): the pending write accumulator. -/
abbrev Acc := BitVec 24

/-- `SEL_BITS` = 3 (R7): the index of one of the eight shadow registers. -/
abbrev RegIdx := BitVec 3

/-- The frame word `fw = {addr, dir, sep1, value, sep2}` (R71), `FRAME_BITS` = 18 bits (R7). -/
abbrev FrameWord := BitVec 18

/-- The four bits `(prevD, prevC, d, c)` of a condition row, bit 3 for `prevD` (R71, R75). -/
abbrev CondWord := BitVec 4

end Sys2Proof
end

