-- ==== Sys2Proof/Syntax.lean ====
section
/-! DEFINITION. The syntax: the phases of the frame state machine, the condition specifications, the 41 operations of
spec/opcode_table.json (R2), and the code words they are decoded from. -/

namespace Sys2Proof

/-- The eight states of the frame state machine (10_state.md R24). -/
inductive Phase where
  | awaitStart | addr | dir | sep1 | valW | valRFall | valRSkip | sep2
deriving DecidableEq, Repr

/-- A transaction's direction (R11): Read is the bit value 1, Write the bit value 0. -/
inductive Direction where
  | read | write
deriving DecidableEq, Repr

/-- The byte lanes of a 24-bit quantity (R11, R53): L is bits 7:0, H bits 15:8, U bits 23:16. -/
inductive Lane where
  | low | high | upper
deriving DecidableEq, Repr

/-- An input channel of a condition (R75): the data line or the clock line. -/
inductive Channel where
  | data | clock
deriving DecidableEq, Repr

/-- A constraint on one channel (R75). "None" is the absence of an entry for the channel. -/
inductive Constraint where
  | rising | falling | high | low
deriving DecidableEq, Repr

/-- A ConditionSpec (R75): `skip N`, or a conjunction of constraints, at most one per channel. -/
inductive ConditionSpec where
  | skip (n : Nat)
  | constraints (cs : List (Channel × Constraint))
deriving DecidableEq, Repr

/-- The operations: one constructor per row of spec/opcode_table.json.
The condition rows carry the bit they sample (the letter `d` of their encoding).
The classifier rows carry every operand bit of the frame word: `sep1` (letter `s`), `sep2` (letter `t`), the value
(letters `v`) or the index `r`, and in the two unmatched rows the address (letters `a`). -/
inductive Instr where
  | condAwaitStart
  | condAddr (d : Bool)
  | condDir (d : Bool)
  | condSep1 (d : Bool)
  | condValW (d : Bool)
  | condValRFall
  | condValRSkip (d : Bool)
  | condSep2 (d : Bool)
  | wAddr0L (sep1 : Bool) (v : Byte) (sep2 : Bool)
  | wAddr0H (sep1 : Bool) (v : Byte) (sep2 : Bool)
  | wAddr0U (sep1 : Bool) (v : Byte) (sep2 : Bool)
  | wAddr1L (sep1 : Bool) (v : Byte) (sep2 : Bool)
  | wAddr1H (sep1 : Bool) (v : Byte) (sep2 : Bool)
  | wAddr1U (sep1 : Bool) (v : Byte) (sep2 : Bool)
  | wAddr2L (sep1 : Bool) (v : Byte) (sep2 : Bool)
  | wAddr2H (sep1 : Bool) (v : Byte) (sep2 : Bool)
  | wAddr2U (sep1 : Bool) (v : Byte) (sep2 : Bool)
  | wAddr3L (sep1 : Bool) (v : Byte) (sep2 : Bool)
  | wAddr3H (sep1 : Bool) (v : Byte) (sep2 : Bool)
  | wAddr3U (sep1 : Bool) (v : Byte) (sep2 : Bool)
  | wBrkCtl (sep1 : Bool) (v : Byte) (sep2 : Bool)
  | wWrDataL (sep1 : Bool) (v : Byte) (sep2 : Bool)
  | wWrDataH (sep1 : Bool) (v : Byte) (sep2 : Bool)
  | wWrDataU (sep1 : Bool) (v : Byte) (sep2 : Bool)
  | wRwCtlRead (sep1 : Bool) (r : RegIdx) (sep2 : Bool)
  | wRwCtlSetAdl (sep1 : Bool) (sep2 : Bool)
  | wRwCtlResetAdl (sep1 : Bool) (sep2 : Bool)
  | wRwCtlWrite (sep1 : Bool) (r : RegIdx) (sep2 : Bool)
  | wIs4 (sep1 : Bool) (v : Byte) (sep2 : Bool)
  | wIs3 (sep1 : Bool) (v : Byte) (sep2 : Bool)
  | wIs2 (sep1 : Bool) (v : Byte) (sep2 : Bool)
  | wIs1 (sep1 : Bool) (v : Byte) (sep2 : Bool)
  | wIs0 (sep1 : Bool) (v : Byte) (sep2 : Bool)
  | rStat (sep1 : Bool) (v : Byte) (sep2 : Bool)
  | rRdL (sep1 : Bool) (v : Byte) (sep2 : Bool)
  | rRdH (sep1 : Bool) (v : Byte) (sep2 : Bool)
  | rRdU (sep1 : Bool) (v : Byte) (sep2 : Bool)
  | rRdMem (sep1 : Bool) (v : Byte) (sep2 : Bool)
  | wRwCtlOther (sep1 : Bool) (v : Byte) (sep2 : Bool)
  | wUnmatched (a : Addr) (sep1 : Bool) (v : Byte) (sep2 : Bool)
  | rUnmatched (a : Addr) (sep1 : Bool) (v : Byte) (sep2 : Bool)
deriving DecidableEq, Repr

/-- What the decoder is given (R71): for a condition row the phase that is waiting, `prevValid` and the 4-bit word; for
a classifier row the 18-bit frame word. The phase is part of the code word because five condition rows share one
pattern (R76). -/
inductive CodeWord where
  | cond (phase : Phase) (prevValid : Bool) (w : CondWord)
  | frame (fw : FrameWord)
deriving DecidableEq, Repr

end Sys2Proof
end

