-- ==== Sys2Proof/Decode.lean ====
section
/-! DEFINITION. The encodings (30_encoding.md): the fields of the frame word, the patterns of the condition rows, the
decoder and, after it, the encoder. Decoding a frame word is total and refuses nothing (R79, R209); a condition word is
rejected, by name, when the phase's condition does not hold on it. -/

namespace Sys2Proof

/-! ### The frame word (R71) -/

/-- `fw = {addr[6:0], dir, sep1, value[7:0], sep2}` (R71), `dir` = 1 for Read. -/
def packFrame (a : Addr) (dir sep1 : Bool) (v : Byte) (sep2 : Bool) : FrameWord :=
  a ++ BitVec.ofBool dir ++ BitVec.ofBool sep1 ++ v ++ BitVec.ofBool sep2

/-- `fw[17:11]` (R71). -/
def frameAddr (fw : FrameWord) : Addr := fw.extractLsb' 11 7

/-- `fw[10]` (R71). -/
def frameDir (fw : FrameWord) : Bool := fw.getLsbD 10

/-- `fw[9]` (R71). -/
def frameSep1 (fw : FrameWord) : Bool := fw.getLsbD 9

/-- `fw[8:1]` (R71). -/
def frameValue (fw : FrameWord) : Byte := fw.extractLsb' 1 8

/-- `fw[0]` (R71). -/
def frameSep2 (fw : FrameWord) : Bool := fw.getLsbD 0

/-! ### The condition word (R71, R75, R76) -/

/-- The four bits `(prevD, prevC, d, c)`, bit 3 for `prevD` (R71). -/
def packCond (prevD prevC d c : Bool) : CondWord :=
  BitVec.ofBool prevD ++ BitVec.ofBool prevC ++ BitVec.ofBool d ++ BitVec.ofBool c

/-- The bit `prevD` of a condition word. -/
def condPrevD (w : CondWord) : Bool := w.getLsbD 3

/-- The bit `prevC` of a condition word. -/
def condPrevC (w : CondWord) : Bool := w.getLsbD 2

/-- The bit `d` of a condition word: the data line on the current sample. -/
def condD (w : CondWord) : Bool := w.getLsbD 1

/-- The bit `c` of a condition word: the clock line on the current sample. -/
def condC (w : CondWord) : Bool := w.getLsbD 0

/-- A pattern over `(prevD, prevC, d, c)` (R75): `mask` marks the characters `0` and `1`, `bits` gives them, and
`needsPrev` is the requirement `prevValid = 1`. -/
structure CondPattern where
  mask : CondWord
  bits : CondWord
  needsPrev : Bool
deriving DecidableEq, Repr

/-- R75: every `0` and `1` character equals the corresponding bit, and `prevValid` is 1 where it is required. -/
def CondPattern.fits (p : CondPattern) (prevValid : Bool) (w : CondWord) : Bool :=
  (!p.needsPrev || prevValid) && (w &&& p.mask == p.bits)

/-- The pattern of each phase: the condition rows of spec/opcode_table.json (R76). -/
def condRow : Phase → CondPattern
  | .awaitStart => ⟨0b1011#4, 0b1001#4, true⟩   -- 1x01
  | .addr       => ⟨0b0101#4, 0b0001#4, true⟩   -- x0d1
  | .dir        => ⟨0b0101#4, 0b0001#4, true⟩   -- x0d1
  | .sep1       => ⟨0b0101#4, 0b0001#4, true⟩   -- x0d1
  | .valW       => ⟨0b0101#4, 0b0001#4, true⟩   -- x0d1
  | .valRFall   => ⟨0b0101#4, 0b0100#4, true⟩   -- x1x0
  | .valRSkip   => ⟨0b0000#4, 0b0000#4, false⟩  -- skip 1: no pattern, always satisfied
  | .sep2       => ⟨0b0101#4, 0b0001#4, true⟩   -- x0d1

/-- The operation of a phase (R76, R131 to R138) with the bit it samples. -/
def condInstr (p : Phase) (d : Bool) : Instr :=
  match p with
  | .awaitStart => .condAwaitStart
  | .addr => .condAddr d
  | .dir => .condDir d
  | .sep1 => .condSep1 d
  | .valW => .condValW d
  | .valRFall => .condValRFall
  | .valRSkip => .condValRSkip d
  | .sep2 => .condSep2 d

/-! ### The decoder -/

/-- Why a condition word is no operation of its phase: the sample is then discarded (R100). Neither is an error. -/
inductive DecodeError where
  /-- The phase's pattern does not match the sample (R75). -/
  | conditionFalse (p : Phase)
  /-- The phase waits for an edge and no previous sample exists (R75, R105). -/
  | noPreviousSample (p : Phase)
deriving DecidableEq, Repr

/-- The decoder's answer. -/
inductive Decoded where
  | instr (i : Instr)
  | reject (e : DecodeError)
deriving DecidableEq, Repr

/-- The operation that the sample causes in a phase, or why it causes none (R75, R76, R100). -/
def decodeCond (p : Phase) (prevValid : Bool) (w : CondWord) : Decoded :=
  if (condRow p).fits prevValid w then .instr (condInstr p (condD w))
  else if (condRow p).needsPrev && !prevValid then .reject (.noPreviousSample p)
  else .reject (.conditionFalse p)

/-- A write of address 0x16 is decoded further by its value (R78). -/
def decodeRwCtl (sep1 : Bool) (v : Byte) (sep2 : Bool) : Instr :=
  if v.extractLsb' 3 5 = 0b00000#5 then .wRwCtlRead sep1 (v.extractLsb' 0 3) sep2
  else if v = 0x08#8 then .wRwCtlSetAdl sep1 sep2
  else if v = 0x09#8 then .wRwCtlResetAdl sep1 sep2
  else if v.extractLsb' 3 5 = 0b10000#5 then .wRwCtlWrite sep1 (v.extractLsb' 0 3) sep2
  else .wRwCtlOther sep1 v sep2

/-- The write direction of the decode map (R77, R79). -/
def decodeWrite (a : Addr) (sep1 : Bool) (v : Byte) (sep2 : Bool) : Instr :=
  if a = 0x00#7 then .wAddr0L sep1 v sep2
  else if a = 0x01#7 then .wAddr0H sep1 v sep2
  else if a = 0x02#7 then .wAddr0U sep1 v sep2
  else if a = 0x04#7 then .wAddr1L sep1 v sep2
  else if a = 0x05#7 then .wAddr1H sep1 v sep2
  else if a = 0x06#7 then .wAddr1U sep1 v sep2
  else if a = 0x08#7 then .wAddr2L sep1 v sep2
  else if a = 0x09#7 then .wAddr2H sep1 v sep2
  else if a = 0x0a#7 then .wAddr2U sep1 v sep2
  else if a = 0x0c#7 then .wAddr3L sep1 v sep2
  else if a = 0x0d#7 then .wAddr3H sep1 v sep2
  else if a = 0x0e#7 then .wAddr3U sep1 v sep2
  else if a = 0x10#7 then .wBrkCtl sep1 v sep2
  else if a = 0x13#7 then .wWrDataL sep1 v sep2
  else if a = 0x14#7 then .wWrDataH sep1 v sep2
  else if a = 0x15#7 then .wWrDataU sep1 v sep2
  else if a = 0x16#7 then decodeRwCtl sep1 v sep2
  else if a = 0x21#7 then .wIs4 sep1 v sep2
  else if a = 0x22#7 then .wIs3 sep1 v sep2
  else if a = 0x23#7 then .wIs2 sep1 v sep2
  else if a = 0x24#7 then .wIs1 sep1 v sep2
  else if a = 0x25#7 then .wIs0 sep1 v sep2
  else .wUnmatched a sep1 v sep2

/-- The read direction of the decode map (R77, R79). -/
def decodeRead (a : Addr) (sep1 : Bool) (v : Byte) (sep2 : Bool) : Instr :=
  if a = 0x03#7 then .rStat sep1 v sep2
  else if a = 0x10#7 then .rRdL sep1 v sep2
  else if a = 0x11#7 then .rRdH sep1 v sep2
  else if a = 0x12#7 then .rRdU sep1 v sep2
  else if a = 0x20#7 then .rRdMem sep1 v sep2
  else .rUnmatched a sep1 v sep2

/-- The classifier row of a frame word (R71, R77 to R79). No frame word is illegal. -/
def decodeFrame (fw : FrameWord) : Instr :=
  if frameDir fw then decodeRead (frameAddr fw) (frameSep1 fw) (frameValue fw) (frameSep2 fw)
  else decodeWrite (frameAddr fw) (frameSep1 fw) (frameValue fw) (frameSep2 fw)

/-- The decoder of the block. -/
def decode : CodeWord → Decoded
  | .cond p prevValid w => decodeCond p prevValid w
  | .frame fw => .instr (decodeFrame fw)

/-! ### The encoder -/

/-- The code word of an operation, from the encodings of R71, R76 and R77. The don't-care bits of a condition row (the
letter `x`) are written 0 (log entry 12). -/
def encode : Instr → CodeWord
  | .condAwaitStart => .cond .awaitStart true (packCond true false false true)
  | .condAddr d => .cond .addr true (packCond false false d true)
  | .condDir d => .cond .dir true (packCond false false d true)
  | .condSep1 d => .cond .sep1 true (packCond false false d true)
  | .condValW d => .cond .valW true (packCond false false d true)
  | .condValRFall => .cond .valRFall true (packCond false true false false)
  | .condValRSkip d => .cond .valRSkip true (packCond false false d false)
  | .condSep2 d => .cond .sep2 true (packCond false false d true)
  | .wAddr0L sep1 v sep2 => .frame (packFrame 0x00#7 false sep1 v sep2)
  | .wAddr0H sep1 v sep2 => .frame (packFrame 0x01#7 false sep1 v sep2)
  | .wAddr0U sep1 v sep2 => .frame (packFrame 0x02#7 false sep1 v sep2)
  | .wAddr1L sep1 v sep2 => .frame (packFrame 0x04#7 false sep1 v sep2)
  | .wAddr1H sep1 v sep2 => .frame (packFrame 0x05#7 false sep1 v sep2)
  | .wAddr1U sep1 v sep2 => .frame (packFrame 0x06#7 false sep1 v sep2)
  | .wAddr2L sep1 v sep2 => .frame (packFrame 0x08#7 false sep1 v sep2)
  | .wAddr2H sep1 v sep2 => .frame (packFrame 0x09#7 false sep1 v sep2)
  | .wAddr2U sep1 v sep2 => .frame (packFrame 0x0a#7 false sep1 v sep2)
  | .wAddr3L sep1 v sep2 => .frame (packFrame 0x0c#7 false sep1 v sep2)
  | .wAddr3H sep1 v sep2 => .frame (packFrame 0x0d#7 false sep1 v sep2)
  | .wAddr3U sep1 v sep2 => .frame (packFrame 0x0e#7 false sep1 v sep2)
  | .wBrkCtl sep1 v sep2 => .frame (packFrame 0x10#7 false sep1 v sep2)
  | .wWrDataL sep1 v sep2 => .frame (packFrame 0x13#7 false sep1 v sep2)
  | .wWrDataH sep1 v sep2 => .frame (packFrame 0x14#7 false sep1 v sep2)
  | .wWrDataU sep1 v sep2 => .frame (packFrame 0x15#7 false sep1 v sep2)
  | .wRwCtlRead sep1 r sep2 => .frame (packFrame 0x16#7 false sep1 (0b00000#5 ++ r) sep2)
  | .wRwCtlSetAdl sep1 sep2 => .frame (packFrame 0x16#7 false sep1 0x08#8 sep2)
  | .wRwCtlResetAdl sep1 sep2 => .frame (packFrame 0x16#7 false sep1 0x09#8 sep2)
  | .wRwCtlWrite sep1 r sep2 => .frame (packFrame 0x16#7 false sep1 (0b10000#5 ++ r) sep2)
  | .wIs4 sep1 v sep2 => .frame (packFrame 0x21#7 false sep1 v sep2)
  | .wIs3 sep1 v sep2 => .frame (packFrame 0x22#7 false sep1 v sep2)
  | .wIs2 sep1 v sep2 => .frame (packFrame 0x23#7 false sep1 v sep2)
  | .wIs1 sep1 v sep2 => .frame (packFrame 0x24#7 false sep1 v sep2)
  | .wIs0 sep1 v sep2 => .frame (packFrame 0x25#7 false sep1 v sep2)
  | .rStat sep1 v sep2 => .frame (packFrame 0x03#7 true sep1 v sep2)
  | .rRdL sep1 v sep2 => .frame (packFrame 0x10#7 true sep1 v sep2)
  | .rRdH sep1 v sep2 => .frame (packFrame 0x11#7 true sep1 v sep2)
  | .rRdU sep1 v sep2 => .frame (packFrame 0x12#7 true sep1 v sep2)
  | .rRdMem sep1 v sep2 => .frame (packFrame 0x20#7 true sep1 v sep2)
  | .wRwCtlOther sep1 v sep2 => .frame (packFrame 0x16#7 false sep1 v sep2)
  | .wUnmatched a sep1 v sep2 => .frame (packFrame a false sep1 v sep2)
  | .rUnmatched a sep1 v sep2 => .frame (packFrame a true sep1 v sep2)

/-! ### The rows of spec/opcode_table.json -/

/-- The mask and match of a `frame18` row (R71): a word matches when `fw & mask = match`. -/
structure FrameRow where
  mask : FrameWord
  bits : FrameWord
deriving DecidableEq, Repr

/-- R71: "A row matches a frame word when `(fw & mask) = match`." -/
def FrameRow.fits (r : FrameRow) (fw : FrameWord) : Bool := fw &&& r.mask == r.bits

/-- The row of each operation, its mask and match copied from spec/opcode_table.json; a condition row has no frame row. -/
def Instr.frameRow? : Instr → Option FrameRow
  | .condAwaitStart | .condAddr _ | .condDir _ | .condSep1 _ | .condValW _ | .condValRFall | .condValRSkip _
  | .condSep2 _ => none
  | .wAddr0L _ _ _ => some ⟨0x3fc00#18, 0x00000#18⟩
  | .wAddr0H _ _ _ => some ⟨0x3fc00#18, 0x00800#18⟩
  | .wAddr0U _ _ _ => some ⟨0x3fc00#18, 0x01000#18⟩
  | .wAddr1L _ _ _ => some ⟨0x3fc00#18, 0x02000#18⟩
  | .wAddr1H _ _ _ => some ⟨0x3fc00#18, 0x02800#18⟩
  | .wAddr1U _ _ _ => some ⟨0x3fc00#18, 0x03000#18⟩
  | .wAddr2L _ _ _ => some ⟨0x3fc00#18, 0x04000#18⟩
  | .wAddr2H _ _ _ => some ⟨0x3fc00#18, 0x04800#18⟩
  | .wAddr2U _ _ _ => some ⟨0x3fc00#18, 0x05000#18⟩
  | .wAddr3L _ _ _ => some ⟨0x3fc00#18, 0x06000#18⟩
  | .wAddr3H _ _ _ => some ⟨0x3fc00#18, 0x06800#18⟩
  | .wAddr3U _ _ _ => some ⟨0x3fc00#18, 0x07000#18⟩
  | .wBrkCtl _ _ _ => some ⟨0x3fc00#18, 0x08000#18⟩
  | .wWrDataL _ _ _ => some ⟨0x3fc00#18, 0x09800#18⟩
  | .wWrDataH _ _ _ => some ⟨0x3fc00#18, 0x0a000#18⟩
  | .wWrDataU _ _ _ => some ⟨0x3fc00#18, 0x0a800#18⟩
  | .wRwCtlRead _ _ _ => some ⟨0x3fdf0#18, 0x0b000#18⟩
  | .wRwCtlSetAdl _ _ => some ⟨0x3fdfe#18, 0x0b010#18⟩
  | .wRwCtlResetAdl _ _ => some ⟨0x3fdfe#18, 0x0b012#18⟩
  | .wRwCtlWrite _ _ _ => some ⟨0x3fdf0#18, 0x0b100#18⟩
  | .wIs4 _ _ _ => some ⟨0x3fc00#18, 0x10800#18⟩
  | .wIs3 _ _ _ => some ⟨0x3fc00#18, 0x11000#18⟩
  | .wIs2 _ _ _ => some ⟨0x3fc00#18, 0x11800#18⟩
  | .wIs1 _ _ _ => some ⟨0x3fc00#18, 0x12000#18⟩
  | .wIs0 _ _ _ => some ⟨0x3fc00#18, 0x12800#18⟩
  | .rStat _ _ _ => some ⟨0x3fc00#18, 0x01c00#18⟩
  | .rRdL _ _ _ => some ⟨0x3fc00#18, 0x08400#18⟩
  | .rRdH _ _ _ => some ⟨0x3fc00#18, 0x08c00#18⟩
  | .rRdU _ _ _ => some ⟨0x3fc00#18, 0x09400#18⟩
  | .rRdMem _ _ _ => some ⟨0x3fc00#18, 0x10400#18⟩
  | .wRwCtlOther _ _ _ => some ⟨0x3fc00#18, 0x0b000#18⟩
  | .wUnmatched _ _ _ _ => some ⟨0x00400#18, 0x00000#18⟩
  | .rUnmatched _ _ _ _ => some ⟨0x00400#18, 0x00400#18⟩

/-! ### The table's numbering -/

/-- The phases in the order of their codes (R24). -/
def Phase.all : List Phase := [.awaitStart, .addr, .dir, .sep1, .valW, .valRFall, .valRSkip, .sep2]

/-- The code of a phase (R24). -/
def Phase.code : Phase → BitVec 3
  | .awaitStart => 0#3 | .addr => 1#3 | .dir => 2#3 | .sep1 => 3#3
  | .valW => 4#3 | .valRFall => 5#3 | .valRSkip => 6#3 | .sep2 => 7#3

/-- Whether a condition word is an operation of a phase. -/
def Decoded.isInstr : Decoded → Bool
  | .instr _ => true
  | .reject _ => false

/-- The operation decoded, if any. -/
def Decoded.instr? : Decoded → Option Instr
  | .instr i => some i
  | .reject _ => none

/-- The code word that a table word stands for. A word of at most 8 bits is a `cond4` word, a longer one a `frame18`
word. A condition word does not say its phase (R76): the first phase in the order of R24's codes whose row it matches
is taken (log entry 10). -/
def tableCodeWord (nbits w : Nat) : Option CodeWord :=
  if nbits ≤ 8 then
    if w < 16 then
      (Phase.all.find? fun p => (decodeCond p true (BitVec.ofNat 4 w)).isInstr).map
        fun p => .cond p true (BitVec.ofNat 4 w)
    else none
  else if w < 2 ^ 18 then some (.frame (BitVec.ofNat 18 w))
  else none

/-- The operation the decoder reads from a word numbered as spec/opcode_table.json numbers it. -/
def decodeTableWord (nbits w : Nat) : Option Instr :=
  match tableCodeWord nbits w with
  | some c => (decode c).instr?
  | none => none

end Sys2Proof
end

