-- ==== Sys2Proof/Config.lean ====
section
/-! DEFINITION. The parameters of the block (00_scope.md R7). `IDX_WIDTH` has no entry: the spec leaves it open and
models a sample index as an unbounded natural number (R21, D2), and so does State (log entry 6). -/

namespace Sys2Proof

/-- `REG0_NAME` (R7, R205, D19): the display name of shadow register 0. The spec leaves it OPEN, so it has no body
here and every claim holds for every text (log entry 7). -/
opaque Config.reg0Name : String

/-- `READ_SKIP` (R7): the samples skipped after a clock falling edge before a Read-direction value bit is taken. -/
def Config.readSkip : Nat := 1

/-- `FRAME_BITS` (R7): the bits sampled per frame after the start condition. -/
def Config.frameBits : Nat := 18

/-- `MAX_RECORDS_PER_STEP` (R7, R222). -/
def Config.maxRecordsPerStep : Nat := 22

end Sys2Proof
end

