-- ==== Sys2Proof/Machine/State.lean ====
section
/-! DEFINITION. The state of the block (10_state.md), the types of its ports (30_encoding.md R80 to R84), the reasons a
step can stop, and the state after reset (70_reset_and_hazards.md R281). -/

namespace Sys2Proof.Machine

/-! ### Ports -/

/-- One sample: the data bit and the clock bit (R80). Its index is the register `idx` (R21). -/
structure Sample where
  d : Bool
  c : Bool
deriving DecidableEq, Repr

/-- What the host can do to the block (R263): supply a sample, assert `rst` (the sample of that step is ignored, R280),
supply the sample rate (R81). -/
inductive HostEvent where
  | sample (x : Sample)
  | rst (ignored : Sample)
  | configure (rate : Int)
deriving DecidableEq, Repr

/-- `Transaction(address, direction, value, startSample, endSample)` (R83, R139). -/
structure Transaction where
  address : Addr
  direction : Direction
  value : Byte
  startSample : Nat
  endSample : Nat
deriving DecidableEq, Repr

/-- The decoded bits of one frame, the fields of the frame word (R71). -/
structure Frame where
  addr : Addr
  dir : Direction
  sep1 : Bool
  value : Byte
  sep2 : Bool
deriving DecidableEq, Repr

/-- The actions of the classifier (R171). -/
inductive Action where
  | addrReg (n : Fin 4) (lane : Lane) (v : Byte)
  | brkCtl (v : Byte)
  | rwRead (r : RegIdx)
  | setAdl
  | resetAdl
  | rwWrite (r : RegIdx) (a : Acc)
  | is (k : Fin 5) (v : Byte)
  | stat (v : Byte)
  | rdReg (r : RegIdx) (lane : Lane) (v : Byte)
  | rdMem (v : Byte)
deriving DecidableEq, Repr

/-- The record classes (R84). -/
inductive RecClass where
  | start | bit | separator | direction | register | value | action
deriving DecidableEq, Repr

/-- The payload of a record (R82). -/
inductive Payload where
  | none
  | bit (b : Bool)
  | dir (r : Direction)
  | addr (a : Addr)
  | val (v : Byte)
  | act (a : Action)
deriving DecidableEq, Repr

/-- An annotation record (R82): its window is the half-open interval `[start, stop)` of sample indices. -/
structure Record where
  start : Nat
  stop : Nat
  cls : RecClass
  payload : Payload
deriving DecidableEq, Repr

/-! ### Registers -/

/-- Three lanes L, H, U (R53): the shape of one shadow register and of its valid bits (R35, R36). -/
structure Lanes (α : Type) where
  low : α
  high : α
  upper : α
deriving DecidableEq, Repr

/-- The session registers (10_state.md section 5): they last across transactions, and only the classifier writes them
(R31). -/
structure Session where
  /-- R32: the pending write accumulator. -/
  acc : Acc
  /-- R33: the selected register index. -/
  sel : RegIdx
  /-- R35: the shadow register file, `shadow[r]` by lanes. -/
  shadow : Vector (Lanes Byte) 8
  /-- R36: one valid bit per shadow byte. -/
  shadowValid : Vector (Lanes Bool) 8
deriving DecidableEq, Repr

/-- The state tuple of R20, and after it the three ports of the model (log entries 1 and 2). -/
structure State where
  /-- R21: the index of the sample the next step processes (unbounded, log entry 6). -/
  idx : Nat
  /-- R22: whether `prevD` and `prevC` hold a real previous sample. -/
  prevValid : Bool
  /-- R23: the data bit of the previous sample. -/
  prevD : Bool
  /-- R23: the clock bit of the previous sample. -/
  prevC : Bool
  /-- R24: the state of the frame state machine. -/
  phase : Phase
  /-- R25: the bits already sampled of a multi-bit field. -/
  bitCnt : BitVec 3
  /-- R26: the address shift register. -/
  addr : Addr
  /-- R27: the direction flag, 1 for Read. -/
  dir : Bool
  /-- R28: the raw separator-1 bit. -/
  sep1 : Bool
  /-- R28: the raw separator-2 bit. -/
  sep2 : Bool
  /-- R29: the value shift register. -/
  value : Byte
  /-- R30: the index of the start-condition sample. -/
  startIdx : Nat
  /-- R30: `aIdx[k]`, the sample of address bit k, k = 0 the most significant. -/
  aIdx : Vector Nat 7
  /-- R30: the sample of the direction bit. -/
  dIdx : Nat
  /-- R30: the sample of separator-1. -/
  s1Idx : Nat
  /-- R30: `vIdx[k]`, the sample of value bit k, k = 0 the most significant. -/
  vIdx : Vector Nat 8
  /-- R31 to R36: `acc`, `sel`, `shadow`, `shadowValid`. -/
  session : Session
  /-- R34: the sample rate, or absent. -/
  sampleRate : Option Int
  /-- R37: the sticky fault bit. -/
  fault : Bool
  /-- The model's own: what the host has supplied and no step has taken, oldest first (R80, R81, log entry 1). -/
  input : List HostEvent
  /-- The model's own: what the transaction port presented in the last step (R83, log entry 2). -/
  txPort : Option Transaction
  /-- The model's own: what the record port emitted in the last step, in order (R82, log entry 2). -/
  recPort : List Record
deriving DecidableEq, Repr

/-! ### Stops -/

/-- The faults that stop the machine: none. The block has no exceptions, traps or interrupts (R250); the one abnormal
state, `fault = 1` (R253), is the register `State.fault`, and the machine goes on (log entry 9). -/
inductive Fault where
deriving DecidableEq, Repr

/-- Why a step is refused. -/
inductive Refusal where
  /-- Raised by an arm of `exec` whose operation has no meaning yet (none is left). Safe: no next state. -/
  | notModelled (mnemonic : String)
  /-- Raised by the step when the host supplies a sample rate after the first sample: outside the host table (R263),
  93_implementation_defined.md I13 says `refuse`. Safe: no claim is made about such a run (log entry 8). -/
  | lateSampleRate
  /-- Raised by the step when the host supplies a second sample rate before the first sample: the host table says once
  (R263, I13). Safe: no claim is made about such a run (log entry 8). -/
  | secondSampleRate
deriving DecidableEq, Repr

/-! ### Reset -/

/-- The session registers after reset (R32, R33, R35, R36). -/
def Session.reset : Session where
  acc := 0x000000#24
  sel := 0#3
  shadow := Vector.replicate 8 ⟨0x00#8, 0x00#8, 0x00#8⟩
  shadowValid := Vector.replicate 8 ⟨false, false, false⟩

/-- The state after reset (R281). `prevD` and `prevC` are unspecified there (R23): 0, DESIGN CHOICE, log entry 4. The
ports are empty: nothing is supplied, delivered or emitted yet. -/
def State.reset : State where
  idx := 0
  prevValid := false
  prevD := false
  prevC := false
  phase := .awaitStart
  bitCnt := 0#3
  addr := 0#7
  dir := false
  sep1 := false
  sep2 := false
  value := 0#8
  startIdx := 0
  aIdx := Vector.replicate 7 0
  dIdx := 0
  s1Idx := 0
  vIdx := Vector.replicate 8 0
  session := Session.reset
  sampleRate := none
  fault := false
  input := []
  txPort := none
  recPort := []

end Sys2Proof.Machine
end

