-- ==== Sys2Proof/Machine/Operands.lean ====
section
/-! DEFINITION. The operand computations: shifting a sampled bit in (R26, R29, R72), the byte lanes (R53, R206), the
index field of a value (R206), and the frame the capture registers hold (R71). -/

namespace Sys2Proof.Machine

/-- R26, R29: `((v << 1) | b)` at the register's width, so the first bit sampled ends as the most significant (R52). -/
def shiftIn {w : Nat} (v : BitVec w) (b : Bool) : BitVec w :=
  (v <<< 1) ||| (BitVec.ofBool b).setWidth w

/-- The direction of a direction bit (R27): 1 is Read, 0 is Write. -/
def directionOfBit (b : Bool) : Direction := if b then .read else .write

/-- The direction bit of a direction (R27). -/
def directionBit : Direction → Bool
  | .read => true
  | .write => false

/-- Lane insertion (R185 to R187, R206): a masked OR that replaces one byte lane and keeps the other two (R54). -/
def insertLane (l : Lane) (a : Acc) (v : Byte) : Acc :=
  match l with
  | .low   => (a &&& 0xFFFF00#24) ||| v.setWidth 24
  | .high  => (a &&& 0xFF00FF#24) ||| (v.setWidth 24 <<< 8)
  | .upper => (a &&& 0x00FFFF#24) ||| (v.setWidth 24 <<< 16)

/-- Replace one lane of three (R54). -/
def Lanes.put {α : Type} (x : Lanes α) (l : Lane) (v : α) : Lanes α :=
  match l with
  | .low   => { x with low := v }
  | .high  => { x with high := v }
  | .upper => { x with upper := v }

/-- Read one lane of three. -/
def Lanes.at {α : Type} (x : Lanes α) (l : Lane) : α :=
  match l with
  | .low   => x.low
  | .high  => x.high
  | .upper => x.upper

/-- The frame held by the capture registers, with the separator-2 bit of this step (R71, R138, R139). -/
def State.frame (s : State) (sep2 : Bool) : Frame where
  addr := s.addr
  dir := directionOfBit s.dir
  sep1 := s.sep1
  value := s.value
  sep2 := sep2

/-- A write frame of an address (the classifier rows of R77 with `RW` = 0). -/
def writeFrame (a : Addr) (sep1 : Bool) (v : Byte) (sep2 : Bool) : Frame := ⟨a, .write, sep1, v, sep2⟩

/-- A read frame of an address (the classifier rows of R77 with `RW` = 1). -/
def readFrame (a : Addr) (sep1 : Bool) (v : Byte) (sep2 : Bool) : Frame := ⟨a, .read, sep1, v, sep2⟩

/-- The value of a 0x16 write of the rows W_RW_CTL_READ and W_RW_CTL_WRITE: five fixed bits over the index `r` (R188,
R191). -/
def rwCtlValue (hi : BitVec 5) (r : RegIdx) : Byte := hi ++ r

/-- The previous sample, as the edge detector holds it (R23). -/
def State.prev (s : State) : Sample := ⟨s.prevD, s.prevC⟩

/-- The bit of a sample on a channel (R75). -/
def Sample.on (x : Sample) : Channel → Bool
  | .data => x.d
  | .clock => x.c

end Sys2Proof.Machine
end

