-- ==== Sys2Proof/Machine/Flags.lean ====
section
/-! DEFINITION. The flag-like values (R41): the edge and level predicates, computed in each step and never stored (R101
to R103, R105), and the test for the unreachable encoded state (R253). -/

namespace Sys2Proof.Machine

/-- R101: `rise(x)`: a previous sample exists, the channel was 0 and is 1. -/
def rise (prevValid prev cur : Bool) : Bool := prevValid && !prev && cur

/-- R102: `fall(x)`: a previous sample exists, the channel was 1 and is 0. -/
def fall (prevValid prev cur : Bool) : Bool := prevValid && prev && !cur

/-- R103: `high(x)` tests the current sample only. -/
def high (cur : Bool) : Bool := cur

/-- R103: `low(x)` tests the current sample only. -/
def low (cur : Bool) : Bool := !cur

/-- `rise(x)` of a sample in a state. -/
def State.rises (s : State) (ch : Channel) (x : Sample) : Bool := rise s.prevValid (s.prev.on ch) (x.on ch)

/-- `fall(x)` of a sample in a state. -/
def State.falls (s : State) (ch : Channel) (x : Sample) : Bool := fall s.prevValid (s.prev.on ch) (x.on ch)

/-- R253: the one encoded state no rule reaches from reset, `phase = ADDR` with `bitCnt = 7`. -/
def State.unreachable (s : State) : Bool := s.phase == .addr && s.bitCnt == 7#3

end Sys2Proof.Machine
end

