-- ==== Sys2Proof/Machine/Ops.lean ====
section
/-! DEFINITION. The named operations over the registers and the ports, shared by all meanings: the edge detector's
update (R106), the capture registers (R30), the session registers (R185 to R187, R200 to R202), the fault (R253), the
records of a frame (R221) and the commit (R140). -/

namespace Sys2Proof.Machine

/-- Apply an update to the next state, keeping a fault or a refusal. -/
def onNext (o : Host.Outcome State Fault Refusal) (f : State → State) : Host.Outcome State Fault Refusal :=
  match o with
  | .next s => .next (f s)
  | .fault r => .fault r
  | .refused r => .refused r

/-! ### Every step -/

/-- R83, R222: a step that commits nothing presents no transaction and emits no record. -/
def State.quiet (s : State) : State := { s with txPort := none, recPort := [] }

/-- R106 and R21: the edge detector and the sample index after a sample, whatever the phase did. -/
def State.advance (s : State) (x : Sample) : State :=
  { s with prevD := x.d, prevC := x.c, prevValid := true, idx := s.idx + 1 }

/-- R253: `raise Fault`: set the sticky bit, and nothing else. No state is saved and no mode changes (R257). -/
def State.raiseFault (s : State) : State := { s with fault := true }

/-! ### The capture registers -/

/-- Write entry k of a vector of indices; out of range, nothing is written. -/
def putIdx {n : Nat} (v : Vector Nat n) (k : Nat) (i : Nat) : Vector Nat n := v.setIfInBounds k i

/-- R132: `addr <- ((addr << 1) | d)[6:0]; aIdx[bitCnt] <- in.i`. -/
def State.takeAddrBit (s : State) (d : Bool) : State :=
  { s with addr := shiftIn s.addr d, aIdx := putIdx s.aIdx s.bitCnt.toNat s.idx }

/-- R135, R137: `value <- ((value << 1) | d)[7:0]; vIdx[bitCnt] <- in.i`. -/
def State.takeValueBit (s : State) (d : Bool) : State :=
  { s with value := shiftIn s.value d, vIdx := putIdx s.vIdx s.bitCnt.toNat s.idx }

/-- R130: after a bit of a field whose last bit has the count `last`, either the field is complete (`bitCnt <- 0`, the
phase after the field) or it goes on (`bitCnt <- bitCnt + 1`, the phase of its next bit). -/
def State.countBit (s : State) (last : BitVec 3) (more done : Phase) : State :=
  if s.bitCnt = last then { s with bitCnt := 0#3, phase := done }
  else { s with bitCnt := s.bitCnt + 1#3, phase := more }

/-! ### The session registers -/

/-- R185 to R187: replace one lane of `acc`. -/
def Session.writeAcc (ses : Session) (l : Lane) (v : Byte) : Session :=
  { ses with acc := insertLane l ses.acc v }

/-- R188: `sel <- r`. -/
def Session.select (ses : Session) (r : RegIdx) : Session := { ses with sel := r }

/-- Read `shadow[r][l]` (R35). -/
def Session.shadowAt (ses : Session) (r : RegIdx) (l : Lane) : Byte := (ses.shadow[r.toNat]'r.isLt).at l

/-- Read `shadowValid[r][l]` (R36). -/
def Session.validAt (ses : Session) (r : RegIdx) (l : Lane) : Bool := (ses.shadowValid[r.toNat]'r.isLt).at l

/-- R200 to R202: `shadow[sel][l] <- v; shadowValid[sel][l] <- 1`, the other lanes and registers unchanged. -/
def Session.observe (ses : Session) (l : Lane) (v : Byte) : Session :=
  { ses with
    shadow := ses.shadow.set ses.sel.toNat ((ses.shadow[ses.sel.toNat]'ses.sel.isLt).put l v) ses.sel.isLt
    shadowValid :=
      ses.shadowValid.set ses.sel.toNat ((ses.shadowValid[ses.sel.toNat]'ses.sel.isLt).put l true) ses.sel.isLt }

/-! ### The transaction and its records -/

/-- R139: the transaction formed at the commit, at sample index `in.i`. -/
def State.transaction (s : State) (f : Frame) : Transaction where
  address := f.addr
  direction := f.dir
  value := f.value
  startSample := s.startIdx
  endSample := s.idx

/-- A record of class BIT or SEPARATOR for the bit `b` over a window. -/
def bitRecord (start stop : Nat) (cls : RecClass) (b : Bool) : Record := ⟨start, stop, cls, .bit b⟩

/-- R224: the record of address bit k, over the one sample at which it was taken. -/
def State.addrBitRecord (s : State) (f : Frame) (k : Fin 7) : Record :=
  bitRecord s.aIdx[k] (s.aIdx[k] + 1) .bit (f.addr.getLsbD (6 - k))

/-- R228: the record of value bit k: Write `[i, i+1)`, Read `[i-1, i)`, with i the sample at which it was taken
(DEDUCED at index 0, log entry 17). -/
def State.valueBitRecord (s : State) (f : Frame) (k : Fin 8) : Record :=
  match f.dir with
  | .write => bitRecord s.vIdx[k] (s.vIdx[k] + 1) .bit (f.value.getLsbD (7 - k))
  | .read => bitRecord (s.vIdx[k] - 1) s.vIdx[k] .bit (f.value.getLsbD (7 - k))

/-- R231: the ACTION record `[s, s2)`, only if there is an action. -/
def State.actionRecords (s : State) : Option Action → List Record
  | none => []
  | some a => [⟨s.startIdx, s.idx, .action, .act a⟩]

/-- R221: `frameRecords(tx, act)`, in order: START, the address bits, REGISTER, DIRECTION, SEPARATOR, the value bits,
SEPARATOR, VALUE, and ACTION if there is one. The separator-2 sample is `in.i`. -/
def State.frameRecords (s : State) (f : Frame) (act : Option Action) : List Record :=
  [⟨s.startIdx, s.startIdx + 1, .start, .none⟩]
  ++ (List.finRange 7).map (s.addrBitRecord f)
  ++ [⟨s.aIdx[0], s.dIdx, .register, .addr f.addr⟩,
      ⟨s.dIdx, s.dIdx + 1, .direction, .dir f.dir⟩,
      bitRecord s.s1Idx (s.s1Idx + 1) .separator f.sep1]
  ++ (List.finRange 8).map (s.valueBitRecord f)
  ++ [bitRecord s.idx (s.idx + 1) .separator f.sep2,
      ⟨s.vIdx[0], s.idx, .value, .val f.value⟩]
  ++ s.actionRecords act

/-! ### The commit -/

/-- The classifier's answer `(act, session')` (R170). -/
structure Classified where
  act : Option Action
  session : Session
deriving DecidableEq, Repr

/-- An entry that displays an action. -/
def display (a : Action) (ses : Session) : Classified := ⟨some a, ses⟩

/-- An entry that produces no action. -/
def silent (ses : Session) : Classified := ⟨none, ses⟩

/-- R138, R140: `sep2` is latched, the transaction is delivered, the session registers take the classifier's values, the
frame's records are emitted, and the block is back in `AWAIT_START` with `bitCnt` 0. -/
def State.commit (s : State) (f : Frame) (k : Classified) : State :=
  { s with
    sep2 := f.sep2
    txPort := some (s.transaction f)
    session := k.session
    recPort := s.frameRecords f k.act
    phase := .awaitStart
    bitCnt := 0#3 }

end Sys2Proof.Machine
end

