-- ==== Sys2Proof/Machine/AddrWrites.lean ====
section
/-! DEFINITION. The classifier's writes of the breakpoint address registers, addresses 0x00 to 0x0e (42_classifier.md R172
to R183): each displays one lane and changes no session register. -/

namespace Sys2Proof.Machine

/-- R172: `W_ADDR0_L`, a write of address 0x00: displays ADDR0 lane L. -/
def classifyWAddr0L (v : Byte) (ses : Session) : Classified := display (.addrReg 0 .low v) ses

/-- R172, R140: the commit of a `W_ADDR0_L` frame. -/
def execWAddr0L (sep1 : Bool) (v : Byte) (sep2 : Bool) (s : State) : Host.Outcome State Fault Refusal :=
  .next (s.commit (writeFrame 0x00#7 sep1 v sep2) (classifyWAddr0L v s.session))

/-- R173: `W_ADDR0_H`, a write of address 0x01: displays ADDR0 lane H. -/
def classifyWAddr0H (v : Byte) (ses : Session) : Classified := display (.addrReg 0 .high v) ses

/-- R173, R140: the commit of a `W_ADDR0_H` frame. -/
def execWAddr0H (sep1 : Bool) (v : Byte) (sep2 : Bool) (s : State) : Host.Outcome State Fault Refusal :=
  .next (s.commit (writeFrame 0x01#7 sep1 v sep2) (classifyWAddr0H v s.session))

/-- R174: `W_ADDR0_U`, a write of address 0x02: displays ADDR0 lane U. -/
def classifyWAddr0U (v : Byte) (ses : Session) : Classified := display (.addrReg 0 .upper v) ses

/-- R174, R140: the commit of a `W_ADDR0_U` frame. -/
def execWAddr0U (sep1 : Bool) (v : Byte) (sep2 : Bool) (s : State) : Host.Outcome State Fault Refusal :=
  .next (s.commit (writeFrame 0x02#7 sep1 v sep2) (classifyWAddr0U v s.session))

/-- R175: `W_ADDR1_L`, a write of address 0x04: displays ADDR1 lane L. -/
def classifyWAddr1L (v : Byte) (ses : Session) : Classified := display (.addrReg 1 .low v) ses

/-- R175, R140: the commit of a `W_ADDR1_L` frame. -/
def execWAddr1L (sep1 : Bool) (v : Byte) (sep2 : Bool) (s : State) : Host.Outcome State Fault Refusal :=
  .next (s.commit (writeFrame 0x04#7 sep1 v sep2) (classifyWAddr1L v s.session))

/-- R176: `W_ADDR1_H`, a write of address 0x05: displays ADDR1 lane H. -/
def classifyWAddr1H (v : Byte) (ses : Session) : Classified := display (.addrReg 1 .high v) ses

/-- R176, R140: the commit of a `W_ADDR1_H` frame. -/
def execWAddr1H (sep1 : Bool) (v : Byte) (sep2 : Bool) (s : State) : Host.Outcome State Fault Refusal :=
  .next (s.commit (writeFrame 0x05#7 sep1 v sep2) (classifyWAddr1H v s.session))

/-- R177: `W_ADDR1_U`, a write of address 0x06: displays ADDR1 lane U. -/
def classifyWAddr1U (v : Byte) (ses : Session) : Classified := display (.addrReg 1 .upper v) ses

/-- R177, R140: the commit of a `W_ADDR1_U` frame. -/
def execWAddr1U (sep1 : Bool) (v : Byte) (sep2 : Bool) (s : State) : Host.Outcome State Fault Refusal :=
  .next (s.commit (writeFrame 0x06#7 sep1 v sep2) (classifyWAddr1U v s.session))

/-- R178: `W_ADDR2_L`, a write of address 0x08: displays ADDR2 lane L. -/
def classifyWAddr2L (v : Byte) (ses : Session) : Classified := display (.addrReg 2 .low v) ses

/-- R178, R140: the commit of a `W_ADDR2_L` frame. -/
def execWAddr2L (sep1 : Bool) (v : Byte) (sep2 : Bool) (s : State) : Host.Outcome State Fault Refusal :=
  .next (s.commit (writeFrame 0x08#7 sep1 v sep2) (classifyWAddr2L v s.session))

/-- R179: `W_ADDR2_H`, a write of address 0x09: displays ADDR2 lane H. -/
def classifyWAddr2H (v : Byte) (ses : Session) : Classified := display (.addrReg 2 .high v) ses

/-- R179, R140: the commit of a `W_ADDR2_H` frame. -/
def execWAddr2H (sep1 : Bool) (v : Byte) (sep2 : Bool) (s : State) : Host.Outcome State Fault Refusal :=
  .next (s.commit (writeFrame 0x09#7 sep1 v sep2) (classifyWAddr2H v s.session))

/-- R180: `W_ADDR2_U`, a write of address 0x0a: displays ADDR2 lane U. -/
def classifyWAddr2U (v : Byte) (ses : Session) : Classified := display (.addrReg 2 .upper v) ses

/-- R180, R140: the commit of a `W_ADDR2_U` frame. -/
def execWAddr2U (sep1 : Bool) (v : Byte) (sep2 : Bool) (s : State) : Host.Outcome State Fault Refusal :=
  .next (s.commit (writeFrame 0x0a#7 sep1 v sep2) (classifyWAddr2U v s.session))

/-- R181: `W_ADDR3_L`, a write of address 0x0c: displays ADDR3 lane L. -/
def classifyWAddr3L (v : Byte) (ses : Session) : Classified := display (.addrReg 3 .low v) ses

/-- R181, R140: the commit of a `W_ADDR3_L` frame. -/
def execWAddr3L (sep1 : Bool) (v : Byte) (sep2 : Bool) (s : State) : Host.Outcome State Fault Refusal :=
  .next (s.commit (writeFrame 0x0c#7 sep1 v sep2) (classifyWAddr3L v s.session))

/-- R182: `W_ADDR3_H`, a write of address 0x0d: displays ADDR3 lane H. -/
def classifyWAddr3H (v : Byte) (ses : Session) : Classified := display (.addrReg 3 .high v) ses

/-- R182, R140: the commit of a `W_ADDR3_H` frame. -/
def execWAddr3H (sep1 : Bool) (v : Byte) (sep2 : Bool) (s : State) : Host.Outcome State Fault Refusal :=
  .next (s.commit (writeFrame 0x0d#7 sep1 v sep2) (classifyWAddr3H v s.session))

/-- R183: `W_ADDR3_U`, a write of address 0x0e: displays ADDR3 lane U. -/
def classifyWAddr3U (v : Byte) (ses : Session) : Classified := display (.addrReg 3 .upper v) ses

/-- R183, R140: the commit of a `W_ADDR3_U` frame. -/
def execWAddr3U (sep1 : Bool) (v : Byte) (sep2 : Bool) (s : State) : Host.Outcome State Fault Refusal :=
  .next (s.commit (writeFrame 0x0e#7 sep1 v sep2) (classifyWAddr3U v s.session))

end Sys2Proof.Machine
end

