-- ==== Sys2Proof/Machine/ControlWrites.lean ====
section
/-! DEFINITION. The classifier's other writes (42_classifier.md R184 to R198): breakpoint control, the accumulator lanes,
the 0x16 read/write control, the IS registers, and the unmatched addresses. -/

namespace Sys2Proof.Machine

/-- R184: `W_BRK_CTL`, a write of address 0x10: displays the breakpoint flags, for every value. -/
def classifyWBrkCtl (v : Byte) (ses : Session) : Classified := display (.brkCtl v) ses

/-- R184, R140: the commit of a `W_BRK_CTL` frame. -/
def execWBrkCtl (sep1 : Bool) (v : Byte) (sep2 : Bool) (s : State) : Host.Outcome State Fault Refusal :=
  .next (s.commit (writeFrame 0x10#7 sep1 v sep2) (classifyWBrkCtl v s.session))

/-- R185: `W_WR_DATA_L`, a write of address 0x13: `acc[7:0] <- v`, no action (D16). -/
def classifyWWrDataL (v : Byte) (ses : Session) : Classified := silent (ses.writeAcc .low v)

/-- R185, R140: the commit of a `W_WR_DATA_L` frame. -/
def execWWrDataL (sep1 : Bool) (v : Byte) (sep2 : Bool) (s : State) : Host.Outcome State Fault Refusal :=
  .next (s.commit (writeFrame 0x13#7 sep1 v sep2) (classifyWWrDataL v s.session))

/-- R186: `W_WR_DATA_H`, a write of address 0x14: `acc[15:8] <- v`, no action (D16). -/
def classifyWWrDataH (v : Byte) (ses : Session) : Classified := silent (ses.writeAcc .high v)

/-- R186, R140: the commit of a `W_WR_DATA_H` frame. -/
def execWWrDataH (sep1 : Bool) (v : Byte) (sep2 : Bool) (s : State) : Host.Outcome State Fault Refusal :=
  .next (s.commit (writeFrame 0x14#7 sep1 v sep2) (classifyWWrDataH v s.session))

/-- R187: `W_WR_DATA_U`, a write of address 0x15: `acc[23:16] <- v`, no action (D16). -/
def classifyWWrDataU (v : Byte) (ses : Session) : Classified := silent (ses.writeAcc .upper v)

/-- R187, R140: the commit of a `W_WR_DATA_U` frame. -/
def execWWrDataU (sep1 : Bool) (v : Byte) (sep2 : Bool) (s : State) : Host.Outcome State Fault Refusal :=
  .next (s.commit (writeFrame 0x15#7 sep1 v sep2) (classifyWWrDataU v s.session))

/-- R188: `W_RW_CTL_READ`, a write of 0x16 with value 0x00..0x07: `sel <- r`. -/
def classifyWRwCtlRead (r : RegIdx) (ses : Session) : Classified := display (.rwRead r) (ses.select r)

/-- R188, R140: the commit of a `W_RW_CTL_READ` frame. -/
def execWRwCtlRead (sep1 : Bool) (r : RegIdx) (sep2 : Bool) (s : State) : Host.Outcome State Fault Refusal :=
  .next (s.commit (writeFrame 0x16#7 sep1 (rwCtlValue 0b00000#5 r) sep2) (classifyWRwCtlRead r s.session))

/-- R189: `W_RW_CTL_SET_ADL`, a write of 0x16 with value 0x08: display only. -/
def classifyWRwCtlSetAdl (ses : Session) : Classified := display .setAdl ses

/-- R189, R140: the commit of a `W_RW_CTL_SET_ADL` frame. -/
def execWRwCtlSetAdl (sep1 : Bool) (sep2 : Bool) (s : State) : Host.Outcome State Fault Refusal :=
  .next (s.commit (writeFrame 0x16#7 sep1 0x08#8 sep2) (classifyWRwCtlSetAdl s.session))

/-- R190: `W_RW_CTL_RESET_ADL`, a write of 0x16 with value 0x09: display only. -/
def classifyWRwCtlResetAdl (ses : Session) : Classified := display .resetAdl ses

/-- R190, R140: the commit of a `W_RW_CTL_RESET_ADL` frame. -/
def execWRwCtlResetAdl (sep1 : Bool) (sep2 : Bool) (s : State) : Host.Outcome State Fault Refusal :=
  .next (s.commit (writeFrame 0x16#7 sep1 0x09#8 sep2) (classifyWRwCtlResetAdl s.session))

/-- R191: `W_RW_CTL_WRITE`, a write of 0x16 with value 0x80..0x87: reports `acc` and does not clear it (R207). -/
def classifyWRwCtlWrite (r : RegIdx) (ses : Session) : Classified := display (.rwWrite r ses.acc) ses

/-- R191, R140: the commit of a `W_RW_CTL_WRITE` frame. -/
def execWRwCtlWrite (sep1 : Bool) (r : RegIdx) (sep2 : Bool) (s : State) : Host.Outcome State Fault Refusal :=
  .next (s.commit (writeFrame 0x16#7 sep1 (rwCtlValue 0b10000#5 r) sep2) (classifyWRwCtlWrite r s.session))

/-- R192: `W_RW_CTL_OTHER`, a write of 0x16 with any other value: no action (D15). -/
def classifyWRwCtlOther (ses : Session) : Classified := silent ses

/-- R192, R140: the commit of a `W_RW_CTL_OTHER` frame. Operands of another row: DESIGN CHOICE, log entry 18. -/
def execWRwCtlOther (sep1 : Bool) (v : Byte) (sep2 : Bool) (s : State) : Host.Outcome State Fault Refusal :=
  .next (s.commit (writeFrame 0x16#7 sep1 v sep2) (classifyWRwCtlOther s.session))

/-- R193: `W_IS4`, a write of address 0x21: displays IS4. -/
def classifyWIs4 (v : Byte) (ses : Session) : Classified := display (.is 4 v) ses

/-- R193, R140: the commit of a `W_IS4` frame. -/
def execWIs4 (sep1 : Bool) (v : Byte) (sep2 : Bool) (s : State) : Host.Outcome State Fault Refusal :=
  .next (s.commit (writeFrame 0x21#7 sep1 v sep2) (classifyWIs4 v s.session))

/-- R194: `W_IS3`, a write of address 0x22: displays IS3. -/
def classifyWIs3 (v : Byte) (ses : Session) : Classified := display (.is 3 v) ses

/-- R194, R140: the commit of a `W_IS3` frame. -/
def execWIs3 (sep1 : Bool) (v : Byte) (sep2 : Bool) (s : State) : Host.Outcome State Fault Refusal :=
  .next (s.commit (writeFrame 0x22#7 sep1 v sep2) (classifyWIs3 v s.session))

/-- R195: `W_IS2`, a write of address 0x23: displays IS2. -/
def classifyWIs2 (v : Byte) (ses : Session) : Classified := display (.is 2 v) ses

/-- R195, R140: the commit of a `W_IS2` frame. -/
def execWIs2 (sep1 : Bool) (v : Byte) (sep2 : Bool) (s : State) : Host.Outcome State Fault Refusal :=
  .next (s.commit (writeFrame 0x23#7 sep1 v sep2) (classifyWIs2 v s.session))

/-- R196: `W_IS1`, a write of address 0x24: displays IS1. -/
def classifyWIs1 (v : Byte) (ses : Session) : Classified := display (.is 1 v) ses

/-- R196, R140: the commit of a `W_IS1` frame. -/
def execWIs1 (sep1 : Bool) (v : Byte) (sep2 : Bool) (s : State) : Host.Outcome State Fault Refusal :=
  .next (s.commit (writeFrame 0x24#7 sep1 v sep2) (classifyWIs1 v s.session))

/-- R197: `W_IS0`, a write of address 0x25: displays IS0. -/
def classifyWIs0 (v : Byte) (ses : Session) : Classified := display (.is 0 v) ses

/-- R197, R140: the commit of a `W_IS0` frame. -/
def execWIs0 (sep1 : Bool) (v : Byte) (sep2 : Bool) (s : State) : Host.Outcome State Fault Refusal :=
  .next (s.commit (writeFrame 0x25#7 sep1 v sep2) (classifyWIs0 v s.session))

/-- R198: `W_UNMATCHED`, a write of an address with no row: no action, not an error (R251). -/
def classifyWUnmatched (ses : Session) : Classified := silent ses

/-- R198, R140: the commit of a `W_UNMATCHED` frame. Operands of another row: DESIGN CHOICE, log entry 18. -/
def execWUnmatched (a : Addr) (sep1 : Bool) (v : Byte) (sep2 : Bool) (s : State) : Host.Outcome State Fault Refusal :=
  .next (s.commit (writeFrame a sep1 v sep2) (classifyWUnmatched s.session))

end Sys2Proof.Machine
end

