-- ==== Sys2Proof/Machine/Reads.lean ====
section
/-! DEFINITION. The classifier's reads (42_classifier.md R199 to R204): status, the three lanes of the selected register,
memory, and the unmatched addresses. -/

namespace Sys2Proof.Machine

/-- R199: `R_STAT`, a read of address 0x03: displays the status flags. -/
def classifyRStat (v : Byte) (ses : Session) : Classified := display (.stat v) ses

/-- R199, R140: the commit of a `R_STAT` frame. -/
def execRStat (sep1 : Bool) (v : Byte) (sep2 : Bool) (s : State) : Host.Outcome State Fault Refusal :=
  .next (s.commit (readFrame 0x03#7 sep1 v sep2) (classifyRStat v s.session))

/-- R200: `R_RD_L`, a read of address 0x10: `shadow[sel][0] <- v`, with `sel` as it stands (R208). -/
def classifyRRdL (v : Byte) (ses : Session) : Classified := display (.rdReg ses.sel .low v) (ses.observe .low v)

/-- R200, R140: the commit of a `R_RD_L` frame. -/
def execRRdL (sep1 : Bool) (v : Byte) (sep2 : Bool) (s : State) : Host.Outcome State Fault Refusal :=
  .next (s.commit (readFrame 0x10#7 sep1 v sep2) (classifyRRdL v s.session))

/-- R201: `R_RD_H`, a read of address 0x11: `shadow[sel][1] <- v`, with `sel` as it stands (R208). -/
def classifyRRdH (v : Byte) (ses : Session) : Classified := display (.rdReg ses.sel .high v) (ses.observe .high v)

/-- R201, R140: the commit of a `R_RD_H` frame. -/
def execRRdH (sep1 : Bool) (v : Byte) (sep2 : Bool) (s : State) : Host.Outcome State Fault Refusal :=
  .next (s.commit (readFrame 0x11#7 sep1 v sep2) (classifyRRdH v s.session))

/-- R202: `R_RD_U`, a read of address 0x12: `shadow[sel][2] <- v`, with `sel` as it stands (R208). -/
def classifyRRdU (v : Byte) (ses : Session) : Classified := display (.rdReg ses.sel .upper v) (ses.observe .upper v)

/-- R202, R140: the commit of a `R_RD_U` frame. -/
def execRRdU (sep1 : Bool) (v : Byte) (sep2 : Bool) (s : State) : Host.Outcome State Fault Refusal :=
  .next (s.commit (readFrame 0x12#7 sep1 v sep2) (classifyRRdU v s.session))

/-- R203: `R_RD_MEM`, a read of address 0x20: display only. -/
def classifyRRdMem (v : Byte) (ses : Session) : Classified := display (.rdMem v) ses

/-- R203, R140: the commit of a `R_RD_MEM` frame. -/
def execRRdMem (sep1 : Bool) (v : Byte) (sep2 : Bool) (s : State) : Host.Outcome State Fault Refusal :=
  .next (s.commit (readFrame 0x20#7 sep1 v sep2) (classifyRRdMem v s.session))

/-- R204: `R_UNMATCHED`, a read of an address with no row: no action, not an error (R251). -/
def classifyRUnmatched (ses : Session) : Classified := silent ses

/-- R204, R140: the commit of a `R_UNMATCHED` frame. Operands of another row: DESIGN CHOICE, log entry 18. -/
def execRUnmatched (a : Addr) (sep1 : Bool) (v : Byte) (sep2 : Bool) (s : State) : Host.Outcome State Fault Refusal :=
  .next (s.commit (readFrame a sep1 v sep2) (classifyRUnmatched s.session))

end Sys2Proof.Machine
end

