-- ==== Sys2Proof/Machine/Classifier.lean ====
section
/-! DEFINITION. The classifier as R170 states it: a total function of the transaction and the session registers. -/

namespace Sys2Proof.Machine

/-- The classification of a decoded entry: which of R172 to R204 applies. A condition row is no classifier entry and
classifies nothing. -/
def classifyEntry (i : Instr) (ses : Session) : Classified :=
  match i with
  | .condAwaitStart => silent ses
  | .condAddr _ => silent ses
  | .condDir _ => silent ses
  | .condSep1 _ => silent ses
  | .condValW _ => silent ses
  | .condValRFall => silent ses
  | .condValRSkip _ => silent ses
  | .condSep2 _ => silent ses
  | .wAddr0L _ v _ => classifyWAddr0L v ses
  | .wAddr0H _ v _ => classifyWAddr0H v ses
  | .wAddr0U _ v _ => classifyWAddr0U v ses
  | .wAddr1L _ v _ => classifyWAddr1L v ses
  | .wAddr1H _ v _ => classifyWAddr1H v ses
  | .wAddr1U _ v _ => classifyWAddr1U v ses
  | .wAddr2L _ v _ => classifyWAddr2L v ses
  | .wAddr2H _ v _ => classifyWAddr2H v ses
  | .wAddr2U _ v _ => classifyWAddr2U v ses
  | .wAddr3L _ v _ => classifyWAddr3L v ses
  | .wAddr3H _ v _ => classifyWAddr3H v ses
  | .wAddr3U _ v _ => classifyWAddr3U v ses
  | .wBrkCtl _ v _ => classifyWBrkCtl v ses
  | .wWrDataL _ v _ => classifyWWrDataL v ses
  | .wWrDataH _ v _ => classifyWWrDataH v ses
  | .wWrDataU _ v _ => classifyWWrDataU v ses
  | .wRwCtlRead _ r _ => classifyWRwCtlRead r ses
  | .wRwCtlSetAdl _ _ => classifyWRwCtlSetAdl ses
  | .wRwCtlResetAdl _ _ => classifyWRwCtlResetAdl ses
  | .wRwCtlWrite _ r _ => classifyWRwCtlWrite r ses
  | .wIs4 _ v _ => classifyWIs4 v ses
  | .wIs3 _ v _ => classifyWIs3 v ses
  | .wIs2 _ v _ => classifyWIs2 v ses
  | .wIs1 _ v _ => classifyWIs1 v ses
  | .wIs0 _ v _ => classifyWIs0 v ses
  | .rStat _ v _ => classifyRStat v ses
  | .rRdL _ v _ => classifyRRdL v ses
  | .rRdH _ v _ => classifyRRdH v ses
  | .rRdU _ v _ => classifyRRdU v ses
  | .rRdMem _ v _ => classifyRRdMem v ses
  | .wRwCtlOther _ _ _ => classifyWRwCtlOther ses
  | .wUnmatched _ _ _ _ => classifyWUnmatched ses
  | .rUnmatched _ _ _ _ => classifyRUnmatched ses

/-- The entry of a transaction (R170: "Dispatch is purely by `(tx.address, tx.direction)`", and for address 0x16 written
also by the value). The separators are not part of a transaction and are taken as 0. -/
def entryOf (tx : Transaction) : Instr :=
  decodeFrame (packFrame tx.address (directionBit tx.direction) false tx.value false)

/-- R170: `classify(tx, session) -> (act, session')`. -/
def classify (tx : Transaction) (ses : Session) : Classified := classifyEntry (entryOf tx) ses

end Sys2Proof.Machine
end

