-- ==== Sys2Proof/Machine/FrameAssembler.lean ====
section
/-! DEFINITION. The frame state machine: what each phase does on a sample that meets its condition (41_frame_assembler.md
R131 to R138) and the commit (R139, R140). The sample's index is `s.idx`; the edge detector's update and `idx + 1` belong
to the step, not to the phase (R148). No meaning here but the commit writes a session register (R147). -/

namespace Sys2Proof.Machine

/-- R131: `COND_AWAIT_START`: a start condition opens a frame. -/
def execCondAwaitStart (s : State) : Host.Outcome State Fault Refusal :=
  .next { s with startIdx := s.idx, addr := 0#7, bitCnt := 0#3, phase := .addr }

/-- R132: `COND_ADDR`: an address bit is shifted in. In the unreachable encoded state the fault is raised instead
(R253, DEDUCED, log entry 13); the step never gets here in that state. -/
def execCondAddr (d : Bool) (s : State) : Host.Outcome State Fault Refusal :=
  if s.bitCnt = 7#3 then .next s.raiseFault
  else .next ((s.takeAddrBit d).countBit 6#3 .addr .dir)

/-- R133: `COND_DIR`: 1 is Read, 0 is Write. -/
def execCondDir (d : Bool) (s : State) : Host.Outcome State Fault Refusal :=
  .next { s with dir := d, dIdx := s.idx, phase := .sep1 }

/-- R134: `COND_SEP1`: the direction selects the value-bit timing (R73). -/
def execCondSep1 (d : Bool) (s : State) : Host.Outcome State Fault Refusal :=
  .next { s with sep1 := d, s1Idx := s.idx, value := 0#8, bitCnt := 0#3, phase := if s.dir then .valRFall else .valW }

/-- R135: `COND_VAL_W`: a Write-direction value bit is shifted in. -/
def execCondValW (d : Bool) (s : State) : Host.Outcome State Fault Refusal :=
  .next ((s.takeValueBit d).countBit 7#3 .valW .sep2)

/-- R136: `COND_VAL_R_FALL`: the falling edge of a Read-direction value bit; no bit is taken. -/
def execCondValRFall (s : State) : Host.Outcome State Fault Refusal :=
  .next { s with phase := .valRSkip }

/-- R137: `COND_VAL_R_SKIP`: a Read-direction value bit is shifted in, whatever the clock does. -/
def execCondValRSkip (d : Bool) (s : State) : Host.Outcome State Fault Refusal :=
  .next ((s.takeValueBit d).countBit 7#3 .valRFall .sep2)

/-- R138, R140: `COND_SEP2`: separator-2 is sampled and the frame commits: the transaction is classified against the
session registers as they stand at the start of the step. -/
def execCondSep2 (d : Bool) (s : State) : Host.Outcome State Fault Refusal :=
  .next (s.commit (s.frame d) (classify (s.transaction (s.frame d)) s.session))

end Sys2Proof.Machine
end

