-- ==== Sys2Proof/Machine/Dispatch.lean ====
section
/-! DEFINITION. The dispatch: one arm per row of spec/opcode_table.json. -/

namespace Sys2Proof.Machine

/-- The meaning of an operation. A condition row's meaning is what its phase does on a sample that meets the condition
(R131 to R138). A classifier row's meaning is the commit step (R140) of the frame the row describes (log entry 11). -/
def exec (i : Instr) (s : State) : Host.Outcome State Fault Refusal :=
  match i with
  | .condAwaitStart => Sys2Proof.Machine.execCondAwaitStart s
  | .condAddr d => Sys2Proof.Machine.execCondAddr d s
  | .condDir d => Sys2Proof.Machine.execCondDir d s
  | .condSep1 d => Sys2Proof.Machine.execCondSep1 d s
  | .condValW d => Sys2Proof.Machine.execCondValW d s
  | .condValRFall => Sys2Proof.Machine.execCondValRFall s
  | .condValRSkip d => Sys2Proof.Machine.execCondValRSkip d s
  | .condSep2 d => Sys2Proof.Machine.execCondSep2 d s
  | .wAddr0L sep1 v sep2 => Sys2Proof.Machine.execWAddr0L sep1 v sep2 s
  | .wAddr0H sep1 v sep2 => Sys2Proof.Machine.execWAddr0H sep1 v sep2 s
  | .wAddr0U sep1 v sep2 => Sys2Proof.Machine.execWAddr0U sep1 v sep2 s
  | .wAddr1L sep1 v sep2 => Sys2Proof.Machine.execWAddr1L sep1 v sep2 s
  | .wAddr1H sep1 v sep2 => Sys2Proof.Machine.execWAddr1H sep1 v sep2 s
  | .wAddr1U sep1 v sep2 => Sys2Proof.Machine.execWAddr1U sep1 v sep2 s
  | .wAddr2L sep1 v sep2 => Sys2Proof.Machine.execWAddr2L sep1 v sep2 s
  | .wAddr2H sep1 v sep2 => Sys2Proof.Machine.execWAddr2H sep1 v sep2 s
  | .wAddr2U sep1 v sep2 => Sys2Proof.Machine.execWAddr2U sep1 v sep2 s
  | .wAddr3L sep1 v sep2 => Sys2Proof.Machine.execWAddr3L sep1 v sep2 s
  | .wAddr3H sep1 v sep2 => Sys2Proof.Machine.execWAddr3H sep1 v sep2 s
  | .wAddr3U sep1 v sep2 => Sys2Proof.Machine.execWAddr3U sep1 v sep2 s
  | .wBrkCtl sep1 v sep2 => Sys2Proof.Machine.execWBrkCtl sep1 v sep2 s
  | .wWrDataL sep1 v sep2 => Sys2Proof.Machine.execWWrDataL sep1 v sep2 s
  | .wWrDataH sep1 v sep2 => Sys2Proof.Machine.execWWrDataH sep1 v sep2 s
  | .wWrDataU sep1 v sep2 => Sys2Proof.Machine.execWWrDataU sep1 v sep2 s
  | .wRwCtlRead sep1 r sep2 => Sys2Proof.Machine.execWRwCtlRead sep1 r sep2 s
  | .wRwCtlSetAdl sep1 sep2 => Sys2Proof.Machine.execWRwCtlSetAdl sep1 sep2 s
  | .wRwCtlResetAdl sep1 sep2 => Sys2Proof.Machine.execWRwCtlResetAdl sep1 sep2 s
  | .wRwCtlWrite sep1 r sep2 => Sys2Proof.Machine.execWRwCtlWrite sep1 r sep2 s
  | .wIs4 sep1 v sep2 => Sys2Proof.Machine.execWIs4 sep1 v sep2 s
  | .wIs3 sep1 v sep2 => Sys2Proof.Machine.execWIs3 sep1 v sep2 s
  | .wIs2 sep1 v sep2 => Sys2Proof.Machine.execWIs2 sep1 v sep2 s
  | .wIs1 sep1 v sep2 => Sys2Proof.Machine.execWIs1 sep1 v sep2 s
  | .wIs0 sep1 v sep2 => Sys2Proof.Machine.execWIs0 sep1 v sep2 s
  | .rStat sep1 v sep2 => Sys2Proof.Machine.execRStat sep1 v sep2 s
  | .rRdL sep1 v sep2 => Sys2Proof.Machine.execRRdL sep1 v sep2 s
  | .rRdH sep1 v sep2 => Sys2Proof.Machine.execRRdH sep1 v sep2 s
  | .rRdU sep1 v sep2 => Sys2Proof.Machine.execRRdU sep1 v sep2 s
  | .rRdMem sep1 v sep2 => Sys2Proof.Machine.execRRdMem sep1 v sep2 s
  | .wRwCtlOther sep1 v sep2 => Sys2Proof.Machine.execWRwCtlOther sep1 v sep2 s
  | .wUnmatched a sep1 v sep2 => Sys2Proof.Machine.execWUnmatched a sep1 v sep2 s
  | .rUnmatched a sep1 v sep2 => Sys2Proof.Machine.execRUnmatched a sep1 v sep2 s

end Sys2Proof.Machine
end

