-- ==== Sys2Proof/Machine/Sequencer.lean ====
section
/-! DEFINITION. The step's parts (R148): the code word a sample makes with the state, the phase's operation, the update
of every step, and the host's events (R263). -/

namespace Sys2Proof.Machine

/-- The code word the step fetches on a sample: the waiting phase and the bits `(prevD, prevC, d, c)` (R75, R100). -/
def State.codeWord (s : State) (x : Sample) : CodeWord :=
  .cond s.phase s.prevValid (packCond s.prevD s.prevC x.d x.c)

/-- The `case phase of` of R148. With `fault = 1` nothing is done; a step that begins in the unreachable encoded state
sets `fault`, whatever the sample (R253, DEDUCED, log entry 13); otherwise the operation runs if the phase's condition
holds, and the sample is discarded if it does not (R100, R111, log entry 20). -/
def State.runPhase (s : State) (x : Sample) : Host.Outcome State Fault Refusal :=
  if s.fault then .next s
  else if s.unreachable then .next s.raiseFault
  else
    match decode (s.codeWord x) with
    | .instr i => exec i s
    | .reject _ => .next s

/-- R148: the step of one sample. -/
def State.takeSample (s : State) (x : Sample) : Host.Outcome State Fault Refusal :=
  onNext (s.runPhase x) (fun t => t.advance x)

/-- R81, R282: the sample rate is accepted once, before the first sample; it is stored and has no effect. Outside the
host table it is refused (I13, log entry 8). It takes no sample (DEDUCED, log entry 15). -/
def State.configure (s : State) (rate : Int) : Host.Outcome State Fault Refusal :=
  if s.idx ≠ 0 then .refused .lateSampleRate
  else
    match s.sampleRate with
    | some _ => .refused .secondSampleRate
    | none => .next { s with sampleRate := some rate }

/-- R280: `rst` sets every register to its reset value, ignores its sample, delivers and emits nothing. What the host
has still to supply stays (DESIGN CHOICE, log entry 14). -/
def State.restart (s : State) : State := { State.reset with input := s.input }

/-- What one event of the host does (R263). -/
def State.takeEvent (s : State) (e : HostEvent) : Host.Outcome State Fault Refusal :=
  match e with
  | .sample x => s.takeSample x
  | .rst _ => .next s.restart
  | .configure rate => s.configure rate

/-- One step: the oldest event is taken. With none waiting nothing happens (R10) and nothing is presented (log entry
3). -/
def State.nextStep (s : State) : Host.Outcome State Fault Refusal :=
  match s.input with
  | [] => .next s.quiet
  | e :: rest => State.takeEvent { s.quiet with input := rest } e

/-- A state whose next step fetches a given code word: the phase that waits, the previous sample and the sample that
arrives; for a frame word, the captured bits and a clock rise at separator-2. The unreachable encoded state and a set
`fault` bit would keep the step from fetching (R253), so they are left too (log entry 10). -/
def State.present (s : State) (c : CodeWord) : State :=
  match c with
  | .cond p prevValid w =>
    { s with
      phase := p
      prevValid := prevValid
      prevD := condPrevD w
      prevC := condPrevC w
      fault := false
      bitCnt := if p = .addr ∧ s.bitCnt = 7#3 then 0#3 else s.bitCnt
      input := .sample ⟨condD w, condC w⟩ :: s.input }
  | .frame fw =>
    { s with
      phase := .sep2
      prevValid := true
      prevC := false
      addr := frameAddr fw
      dir := frameDir fw
      sep1 := frameSep1 fw
      value := frameValue fw
      fault := false
      input := .sample ⟨frameSep2 fw, true⟩ :: s.input }

end Sys2Proof.Machine
end

