-- ==== Sys2Proof/Machine/Step.lean ====
section
/-! DEFINITION. The step of the machine, and the state in which the next step runs a given word of
spec/opcode_table.json. -/

namespace Sys2Proof.Machine

/-- One step of the machine (R10, R148, R263). -/
def step (s : State) : Host.Outcome State Fault Refusal := s.nextStep

/-- `s` with the operation of a table word placed where the next step fetches it (log entry 10). -/
def State.withFetchWord (s : State) (nbits w : Nat) : State :=
  match tableCodeWord nbits w with
  | some c => s.present c
  | none => s

end Sys2Proof.Machine
end

