-- ==== Sys2Proof/WellFormed.lean ====
section
/-! DEFINITION. Which syntax is well formed: the operand ranges of the fall-through rows (R192, R198, R204) and the
form of a ConditionSpec (R75, R254). Every other operand has exactly its field's width. -/

namespace Sys2Proof

/-- The write addresses that have a row of their own (R77): 22 of them (R51). -/
def writeAddresses : List Addr :=
  [0x00#7, 0x01#7, 0x02#7, 0x04#7, 0x05#7, 0x06#7, 0x08#7, 0x09#7, 0x0a#7, 0x0c#7, 0x0d#7, 0x0e#7,
   0x10#7, 0x13#7, 0x14#7, 0x15#7, 0x16#7, 0x21#7, 0x22#7, 0x23#7, 0x24#7, 0x25#7]

/-- The read addresses that have a row of their own (R77): 5 of them (R51). -/
def readAddresses : List Addr := [0x03#7, 0x10#7, 0x11#7, 0x12#7, 0x20#7]

/-- The values of a 0x16 write that no row but W_RW_CTL_OTHER covers (R78, R192). -/
def isOtherRwCtlValue (v : Byte) : Bool :=
  (0x0a#8 ≤ v && v ≤ 0x7f#8) || 0x88#8 ≤ v

/-- An operation is well formed when its operands lie in its row's range: W_RW_CTL_OTHER only with a value in
0x0A..0x7F or 0x88..0xFF (R192), the unmatched rows only with an address that no other row of the direction has
(R198, R204). -/
def Instr.wellFormed : Instr → Bool
  | .wRwCtlOther _ v _ => isOtherRwCtlValue v
  | .wUnmatched a _ _ _ => !writeAddresses.contains a
  | .rUnmatched a _ _ _ => !readAddresses.contains a
  | .condAwaitStart | .condAddr _ | .condDir _ | .condSep1 _ | .condValW _ | .condValRFall | .condValRSkip _
  | .condSep2 _
  | .wAddr0L _ _ _ | .wAddr0H _ _ _ | .wAddr0U _ _ _ | .wAddr1L _ _ _ | .wAddr1H _ _ _ | .wAddr1U _ _ _
  | .wAddr2L _ _ _ | .wAddr2H _ _ _ | .wAddr2U _ _ _ | .wAddr3L _ _ _ | .wAddr3H _ _ _ | .wAddr3U _ _ _
  | .wBrkCtl _ _ _ | .wWrDataL _ _ _ | .wWrDataH _ _ _ | .wWrDataU _ _ _
  | .wRwCtlRead _ _ _ | .wRwCtlSetAdl _ _ | .wRwCtlResetAdl _ _ | .wRwCtlWrite _ _ _
  | .wIs4 _ _ _ | .wIs3 _ _ _ | .wIs2 _ _ _ | .wIs1 _ _ _ | .wIs0 _ _ _
  | .rStat _ _ _ | .rRdL _ _ _ | .rRdH _ _ _ | .rRdU _ _ _ | .rRdMem _ _ _ => true

/-- R75, R254: `skip N` has N ≥ 1, and a spec constrains a channel at most once. -/
def ConditionSpec.wellFormed : ConditionSpec → Bool
  | .skip n => 1 ≤ n
  | .constraints cs => decide (cs.map (·.1)).Nodup

end Sys2Proof
end

