-- ==== Sys2Proof/Machine/Scanner.lean ====
section
/-! DEFINITION. The condition scanner in the form of 40_scanner.md: when a ConditionSpec holds on a sample (R100 to
R109), the condition table (R76), and the encoding of a ConditionSpec as a pattern (R75). The step itself tests the
patterns through the decoder; the obligations say that the two agree. -/

namespace Sys2Proof.Machine

/-- When a constraint holds on one channel (R101 to R103). -/
def constraintHolds (k : Constraint) (prevValid prev cur : Bool) : Bool :=
  match k with
  | .rising => rise prevValid prev cur
  | .falling => fall prevValid prev cur
  | .high => high cur
  | .low => low cur

/-- When a ConditionSpec holds on a sample (R104, R108). `elapsed` counts the samples since the last sample returned to
the frame state machine, this one included: `skip N` is satisfied by the Nth (DEDUCED, log entry 16). -/
def specHolds (spec : ConditionSpec) (prevValid : Bool) (prev cur : Sample) (elapsed : Nat) : Bool :=
  match spec with
  | .skip n => elapsed == n
  | .constraints cs => cs.all fun ck => constraintHolds ck.2 prevValid (prev.on ck.1) (cur.on ck.1)

/-- R109: `matchedIndex`, the position of the first alternative, in list order, that holds on the sample. -/
def matchedIndex (alts : List ConditionSpec) (prevValid : Bool) (prev cur : Sample) (elapsed : Nat) : Option Nat :=
  alts.findIdx? fun spec => specHolds spec prevValid prev cur elapsed

/-- R76: the fixed condition of each phase. -/
def conditionTable : Phase → ConditionSpec
  | .awaitStart => .constraints [(.data, .falling), (.clock, .high)]
  | .addr => .constraints [(.clock, .rising)]
  | .dir => .constraints [(.clock, .rising)]
  | .sep1 => .constraints [(.clock, .rising)]
  | .valW => .constraints [(.clock, .rising)]
  | .valRFall => .constraints [(.clock, .falling)]
  | .valRSkip => .skip Config.readSkip
  | .sep2 => .constraints [(.clock, .rising)]

/-- R254: a condition table given as data is built only if each phase's spec is well formed; otherwise it is refused. -/
def buildConditionTable (t : Phase → ConditionSpec) : Option (Phase → ConditionSpec) :=
  if Phase.all.all fun p => (t p).wellFormed then some t else none

/-- R100: whether the condition of the state's phase holds on a sample. In `VAL_R_SKIP`, the only phase with a skip, the
sample tested is always the first after the one that ended the previous wait (R104), so `elapsed` is 1. -/
def State.conditionHolds (s : State) (x : Sample) : Bool :=
  specHolds (conditionTable s.phase) s.prevValid s.prev x 1

/-- The pattern bits of one constraint (R75): the channel's place in `(prevX, x)`, with the data line's bits 3 and 1 and
the clock line's bits 2 and 0. -/
def constraintPattern (ck : Channel × Constraint) : CondPattern :=
  match ck with
  | (.data, .rising)   => ⟨0b1010#4, 0b0010#4, true⟩
  | (.data, .falling)  => ⟨0b1010#4, 0b1000#4, true⟩
  | (.data, .high)     => ⟨0b0010#4, 0b0010#4, false⟩
  | (.data, .low)      => ⟨0b0010#4, 0b0000#4, false⟩
  | (.clock, .rising)  => ⟨0b0101#4, 0b0001#4, true⟩
  | (.clock, .falling) => ⟨0b0101#4, 0b0100#4, true⟩
  | (.clock, .high)    => ⟨0b0001#4, 0b0001#4, false⟩
  | (.clock, .low)     => ⟨0b0001#4, 0b0000#4, false⟩

/-- The conjunction of two patterns over different channels. -/
def joinPatterns (p q : CondPattern) : CondPattern :=
  ⟨p.mask ||| q.mask, p.bits ||| q.bits, p.needsPrev || q.needsPrev⟩

/-- R75: the pattern of a ConditionSpec; `skip N` has none. -/
def patternOf : ConditionSpec → Option CondPattern
  | .skip _ => none
  | .constraints cs => some (cs.foldr (fun ck p => joinPatterns (constraintPattern ck) p) ⟨0#4, 0#4, false⟩)

end Sys2Proof.Machine
end

