-- ==== Sys2Proof/Machine/Text.lean ====
section
/-! DEFINITION. The text forms (43_annotation_output.md R230 to R238): a pure function of a record's class and payload,
and of the open parameter REG0_NAME. The block's record port carries payloads, not texts (R82, D27). -/

namespace Sys2Proof.Machine

/-! ### Numbers and flag strings -/

/-- The digits of `v` in base 16, lower case, in front of `rest`; `fuel` bounds their number. -/
def hexDigits : Nat → Nat → List Char → List Char
  | 0, _, rest => rest
  | fuel + 1, v, rest =>
    if v < 16 then Nat.digitChar v :: rest
    else hexDigits fuel (v / 16) (Nat.digitChar (v % 16) :: rest)

/-- R230: `hex(v)`: "0x" and the lower-case digits of `v`, no leading zeros, `hex(0)` = "0x0". -/
def hex (v : Nat) : String := "0x" ++ String.ofList (hexDigits (v + 1) v [])

/-- The letter of a breakpoint flag if its bit is set. -/
def flagLetter (b : Bool) (letters : String) : String := if b then letters else ""

/-- R235: `brkFlags(v)`, one letter per set bit, from bit 7 to bit 0. -/
def brkFlags (v : Byte) : String :=
  flagLetter (v.getLsbD 7) "BN" ++ flagLetter (v.getLsbD 6) "B3" ++ flagLetter (v.getLsbD 5) "B2"
    ++ flagLetter (v.getLsbD 4) "B1" ++ flagLetter (v.getLsbD 3) "B0" ++ flagLetter (v.getLsbD 2) "I1"
    ++ flagLetter (v.getLsbD 1) "I0" ++ flagLetter (v.getLsbD 0) "S"

/-- R236: `statFlags(v)`, bits 7, 5, 4, 3, 2, upper case if set and lower case if not. -/
def statFlags (v : Byte) : String :=
  (if v.getLsbD 7 then "Z" else "z") ++ (if v.getLsbD 5 then "H" else "h") ++ (if v.getLsbD 4 then "A" else "a")
    ++ (if v.getLsbD 3 then "M" else "m") ++ (if v.getLsbD 2 then "I" else "i")

/-- R205: the register name table; register 0's name is the open parameter. -/
def regName (r : RegIdx) : String :=
  if r = 0#3 then Config.reg0Name
  else if r = 1#3 then "BC"
  else if r = 2#3 then "DE"
  else if r = 3#3 then "HL"
  else if r = 4#3 then "IX"
  else if r = 5#3 then "IY"
  else if r = 6#3 then "SP"
  else "PC"

/-- The letter of a lane (R11). -/
def laneName : Lane → String
  | .low => "L"
  | .high => "H"
  | .upper => "U"

/-- The number of a lane (R35): 0 L, 1 H, 2 U. -/
def laneNumber : Lane → Nat
  | .low => 0
  | .high => 1
  | .upper => 2

/-- "0" or "1" (R232). -/
def bitText (b : Bool) : String := if b then "1" else "0"

/-! ### Actions (R233) -/

/-- The long form of an action. -/
def actionLong : Action → String
  | .addrReg n lane v => "ADDR" ++ toString n.val ++ "_" ++ laneName lane ++ " = " ++ hex v.toNat
  | .brkCtl v => "BRK_CTL = " ++ brkFlags v
  | .rwRead r => "Read " ++ regName r
  | .setAdl => "Set ADL"
  | .resetAdl => "Reset ADL"
  | .rwWrite r a => "Write " ++ regName r ++ " = " ++ hex a.toNat
  | .is k v => "IS" ++ toString k.val ++ " = " ++ hex v.toNat
  | .stat v => "STAT = " ++ statFlags v
  | .rdReg r lane v => regName r ++ "_" ++ laneName lane ++ " = " ++ hex v.toNat
  | .rdMem v => "RD_MEM = " ++ hex v.toNat

/-- The short form of an action. -/
def actionShort : Action → String
  | .addrReg _ _ v => hex v.toNat
  | .brkCtl v => brkFlags v
  | .rwRead r => "Read " ++ regName r
  | .setAdl => "Set ADL"
  | .resetAdl => "Reset ADL"
  | .rwWrite _ a => hex a.toNat
  | .is _ v => hex v.toNat
  | .stat v => statFlags v
  | .rdReg _ _ v => hex v.toNat
  | .rdMem v => hex v.toNat

/-! ### Records (R232) -/

/-- The long form of a record's payload; only class START has no payload. -/
def payloadLong : Payload → String
  | .none => "Start"
  | .bit b => bitText b
  | .dir .read => "Read"
  | .dir .write => "Write"
  | .addr a => hex a.toNat
  | .val v => hex v.toNat
  | .act a => actionLong a

/-- The short form of a record's payload. -/
def payloadShort : Payload → String
  | .none => "S"
  | .bit b => bitText b
  | .dir .read => "R"
  | .dir .write => "W"
  | .addr a => hex a.toNat
  | .val v => hex v.toNat
  | .act a => actionShort a

/-- R238: `(longText, shortText)` of a record (log entry 19). -/
def Record.texts (r : Record) : String × String := (payloadLong r.payload, payloadShort r.payload)

/-! ### Classes and display rows (R84, R234) -/

/-- R84: the class identifier, 0..6. -/
def classId : RecClass → Nat
  | .start => 0
  | .bit => 1
  | .separator => 2
  | .direction => 3
  | .register => 4
  | .value => 5
  | .action => 6

/-- The display rows (R84). -/
inductive DisplayRow where
  | bitLevel | commandLevel | actionLevel
deriving DecidableEq, Repr

/-- R234: the display row is a function of the class alone. -/
def displayRow : RecClass → DisplayRow
  | .start | .bit | .separator | .direction => .bitLevel
  | .register | .value => .commandLevel
  | .action => .actionLevel

/-- R82: which payloads a class carries. -/
def Record.payloadFitsClass (r : Record) : Bool :=
  match r.cls, r.payload with
  | .start, .none => true
  | .bit, .bit _ => true
  | .separator, .bit _ => true
  | .direction, .dir _ => true
  | .register, .addr _ => true
  | .value, .val _ => true
  | .action, .act _ => true
  | _, _ => false

end Sys2Proof.Machine
end

