-- ==== Sys2Proof/Machine/Waveform.lean ====
section
/-! DEFINITION. The spec's waveform notation and frame macros (30_encoding.md R85, R86): lists of samples. -/

namespace Sys2Proof.Machine

/-- R85: `IDLE n` is n samples `11`. -/
def idle (n : Nat) : List Sample := List.replicate n ⟨true, true⟩

/-- R86: `cell(b)` is `b0 b0 b1 b1`. -/
def cell (b : Bool) : List Sample := [⟨b, false⟩, ⟨b, false⟩, ⟨b, true⟩, ⟨b, true⟩]

/-- The bits of a field in wire order, most significant first (R52). -/
def wireBits {w : Nat} (v : BitVec w) : List Bool := (List.range w).map fun k => v.getLsbD (w - 1 - k)

/-- The cells of a field. -/
def cells (bs : List Bool) : List Sample := bs.flatMap cell

/-- R86: `WR(a, v)`: the start sample `01`, the cells of the address, 0, 1, the value, 1. -/
def wrMacro (a : Addr) (v : Byte) : List Sample :=
  [⟨false, true⟩] ++ cells (wireBits a) ++ cell false ++ cell true ++ cells (wireBits v) ++ cell true

/-- R86: `RD(a, v)`: as `WR` with direction 1, but the last value bit's cell is `v[0]0 v[0]0 11 11` and ends the frame. -/
def rdMacro (a : Addr) (v : Byte) : List Sample :=
  [⟨false, true⟩] ++ cells (wireBits a) ++ cell true ++ cell true ++ cells ((wireBits v).take 7)
    ++ [⟨v.getLsbD 0, false⟩, ⟨v.getLsbD 0, false⟩, ⟨true, true⟩, ⟨true, true⟩]

/-- The macro of a direction. -/
def frameMacro (dir : Direction) (a : Addr) (v : Byte) : List Sample :=
  match dir with
  | .write => wrMacro a v
  | .read => rdMacro a v

/-- Samples as the host supplies them (R80). -/
def supply (xs : List Sample) : List HostEvent := xs.map .sample

end Sys2Proof.Machine
end

