-- ==== Sys2Proof/Safety.lean ====
section
/-! DEFINITION. What the claims say of runs: the invariant of the reachable states, a clean end of a run (R264), and the
outputs of a run (R60, R264). -/

namespace Sys2Proof.Machine

/-- The capture indices already taken in the open frame, in the order they were taken (R30, R130). -/
def State.captured (s : State) : List Nat :=
  match s.phase with
  | .awaitStart => []
  | .addr => s.startIdx :: s.aIdx.toList.take s.bitCnt.toNat
  | .dir => s.startIdx :: s.aIdx.toList
  | .sep1 => s.startIdx :: s.aIdx.toList ++ [s.dIdx]
  | .valW | .valRFall | .valRSkip =>
    s.startIdx :: s.aIdx.toList ++ [s.dIdx, s.s1Idx] ++ s.vIdx.toList.take s.bitCnt.toNat
  | .sep2 => s.startIdx :: s.aIdx.toList ++ [s.dIdx, s.s1Idx] ++ s.vIdx.toList

/-- R25: what `bitCnt` holds in each phase: 0..6 in `ADDR`, 0..7 in the value phases, 0 in the others. -/
def State.countLegal (s : State) : Prop :=
  match s.phase with
  | .addr => s.bitCnt ≠ 7#3
  | .valW | .valRFall | .valRSkip => True
  | .awaitStart | .dir | .sep1 | .sep2 => s.bitCnt = 0#3

/-- R134: the value phases agree with the direction flag. -/
def State.directionAgrees (s : State) : Prop :=
  match s.phase with
  | .valW => s.dir = false
  | .valRFall | .valRSkip => s.dir = true
  | .awaitStart | .addr | .dir | .sep1 | .sep2 => True

/-- The invariant of the reachable states: no fault (R253), a legal count (R25), the direction agreeing with the phase
(R134), the capture indices of the open frame strictly increasing and all before the next sample (R143), and no sample
seen exactly while the index is 0 (R21, R22). -/
structure State.Inv (s : State) : Prop where
  noFault : s.fault = false
  count : s.countLegal
  direction : s.directionAgrees
  increasing : (s.captured ++ [s.idx]).Pairwise (· < ·)
  fresh : s.prevValid = false ↔ s.idx = 0
  unopened : s.idx = 0 → s.phase = .awaitStart

/-- R264: "A run ends in a clean state if `fault = 0`, whatever the phase." -/
def State.cleanEnd (s : State) : Prop := s.fault = false

/-- The outputs of a run: the state it ends in, the transactions delivered and the records emitted, in order (R60). -/
structure RunOutputs where
  final : State
  delivered : List Transaction
  emitted : List Record
deriving DecidableEq, Repr

/-- R264: the outputs of a run of n steps are those of the steps taken; none if a step is refused. -/
def runOutputs : Nat → State → Option RunOutputs
  | 0, s => some ⟨s, [], []⟩
  | n + 1, s =>
    match step s with
    | .next t =>
      match runOutputs n t with
      | some o => some ⟨o.final, t.txPort.toList ++ o.delivered, t.recPort ++ o.emitted⟩
      | none => none
    | .fault _ => none
    | .refused _ => none

/-- The run of a list of samples: one step per sample (R10). -/
def runSamples (s : State) (xs : List Sample) : Option RunOutputs :=
  runOutputs xs.length { s with input := supply xs }

/-- A state with one more sample supplied, the next to be taken (R80). -/
def State.supplied (s : State) (x : Sample) : State := { s with input := .sample x :: s.input }

/-- R281: every register at the reset value the spec gives. `prevD` and `prevC` have none (R23). -/
structure State.HasResetValues (s : State) : Prop where
  idx : s.idx = 0
  prevValid : s.prevValid = false
  phase : s.phase = .awaitStart
  bitCnt : s.bitCnt = 0#3
  addr : s.addr = 0#7
  dir : s.dir = false
  sep1 : s.sep1 = false
  sep2 : s.sep2 = false
  value : s.value = 0#8
  startIdx : s.startIdx = 0
  aIdx : ∀ k : Fin 7, s.aIdx[k] = 0
  dIdx : s.dIdx = 0
  s1Idx : s.s1Idx = 0
  vIdx : ∀ k : Fin 8, s.vIdx[k] = 0
  acc : s.session.acc = 0x000000#24
  sel : s.session.sel = 0#3
  sampleRate : s.sampleRate = none
  shadow : ∀ (r : RegIdx) (l : Lane), s.session.shadowAt r l = 0x00#8
  shadowValid : ∀ (r : RegIdx) (l : Lane), s.session.validAt r l = false
  fault : s.fault = false

/-- What a classifier row is and does. Its encoding is the frame word of its key (R77). From every state it answers a
next state (R140) in which the row's transaction is presented, the session registers and the action are those the row
gives, the frame's records are emitted, separator-2 is latched, the block is in `AWAIT_START` with `bitCnt` 0, and every
other register, the host's supply included, is unchanged. That `exec` of a row is this whole commit, the writes of R138
and R140 included, is the model's choice (log entry 11). The long text of the action is the row's (R233). -/
def CommitsAs (i : Instr) (f : Frame) (act : Session → Option Action) (text : Session → Option String)
    (ses' : Session → Session) : Prop :=
  encode i = .frame (packFrame f.addr (directionBit f.dir) f.sep1 f.value f.sep2) ∧
  ∀ s : State, (act s.session).map actionLong = text s.session ∧ exec i s = .next { s with
    sep2 := f.sep2
    phase := .awaitStart
    bitCnt := 0#3
    session := ses' s.session
    txPort := some ⟨f.addr, f.dir, f.value, s.startIdx, s.idx⟩
    recPort := s.frameRecords f (act s.session) }

/-- A phase of the frame state machine as R100 runs it: on a sample that meets the phase's condition the step is the
phase's operation, on any other sample nothing but the edge detector and the index moves. Both hold while `fault` is 0
and the state is not the unreachable one (R253). -/
def PhaseWaitsFor (p : Phase) (cond : State → Sample → Bool) (i : Bool → Instr) : Prop :=
  ∀ (s : State) (x : Sample), s.fault = false → s.unreachable = false → s.phase = p →
    step (s.supplied x) =
      if cond s x then onNext (exec (i x.d) s.quiet) (fun t => t.advance x) else .next (s.quiet.advance x)

/-- The transition table of R130 for a sample that meets the phase's condition: the next phase and bit count. -/
def transition (p : Phase) (bitCnt : BitVec 3) (dir : Bool) : Phase × BitVec 3 :=
  match p with
  | .awaitStart => (.addr, 0#3)
  | .addr => if bitCnt = 6#3 then (.dir, 0#3) else (.addr, bitCnt + 1#3)
  | .dir => (.sep1, bitCnt)
  | .sep1 => (if dir then .valRFall else .valW, 0#3)
  | .valW => if bitCnt = 7#3 then (.sep2, 0#3) else (.valW, bitCnt + 1#3)
  | .valRFall => (.valRSkip, bitCnt)
  | .valRSkip => if bitCnt = 7#3 then (.sep2, 0#3) else (.valRFall, bitCnt + 1#3)
  | .sep2 => (.awaitStart, 0#3)

/-- The number a list of hexadecimal digits stands for (R230). -/
def hexValue (ds : List Char) : Nat :=
  ds.foldl (fun n c => 16 * n + "0123456789abcdef".toList.idxOf c) 0

/-- Whether a step on this sample commits a frame (R138, R253): the block waits for separator-2, not frozen, and the
clock rises. -/
def State.commits (s : State) (x : Sample) : Bool := !s.fault && s.phase == .sep2 && s.rises .clock x

end Sys2Proof.Machine
end

