-- ==== Sys2Proof/Certificates/Slice0/Obligations.lean ====
section
/-! DEFINITION. The statements for the provers. Each docstring names the rule or the sentence of spec/ it formalises, or
says that it is the model's own choice and names its log entry. The block has no memory (20_memory.md R50), so no
statement speaks of one; a record update `{ s with … }` says that every register it does not name is unchanged. -/

open Sys2Proof Sys2Proof.Machine

/-! ### Reset and the host -/

/-- R281, 70_reset_and_hazards.md: "The state after reset is as follows." -/
def Obligations.ResetLeavesTheListedValues : Prop := State.reset.HasResetValues

/-- R280, 70_reset_and_hazards.md: a step with `rst` ignores its sample, restores every register, delivers nothing and
emits nothing. -/
def Obligations.RstRestoresEveryResetValue : Prop :=
  ∀ (s : State) (rest : List HostEvent), ∃ t : State,
    (∀ x : Sample, step { s with input := .rst x :: rest } = .next t) ∧
    t.HasResetValues ∧ t.txPort = none ∧ t.recPort = []

/-- 30_encoding.md section 4, "It is stored in `sampleRate` … and has no effect", and 60_exceptions.md section 4, before
the first sample. That the event empties the ports is the model's choice (log entry 2). -/
def Obligations.ConfigureStoresOnlyTheSampleRate : Prop :=
  ∀ (s : State) (r : Int) (rest : List HostEvent), s.idx = 0 → s.sampleRate = none →
    step { s with input := .configure r :: rest } =
      .next { s with sampleRate := some r, input := rest, txPort := none, recPort := [] }

/-- 93_implementation_defined.md I13, "A model refuses a late sample rate": the names of the refusals are the model's
choice (log entry 8). -/
def Obligations.SampleRateOutsideTheHostTableIsRefused : Prop :=
  ∀ (s : State) (r : Int) (rest : List HostEvent),
    (s.idx ≠ 0 → step { s with input := .configure r :: rest } = .refused .lateSampleRate) ∧
    (s.idx = 0 → s.sampleRate ≠ none → step { s with input := .configure r :: rest } = .refused .secondSampleRate)

/-! ### The edge detector and the scanner -/

/-- R101, R102, R103, 40_scanner.md, for both channels and as the scanner uses them. -/
def Obligations.EdgeAndLevelPredicates : Prop :=
  ∀ (s : State) (x : Sample) (ch : Channel),
    (s.rises ch x = true ↔ s.prevValid = true ∧ s.prev.on ch = false ∧ x.on ch = true) ∧
    (s.falls ch x = true ↔ s.prevValid = true ∧ s.prev.on ch = true ∧ x.on ch = false) ∧
    (high (x.on ch) = true ↔ x.on ch = true) ∧ (low (x.on ch) = true ↔ x.on ch = false) ∧
    constraintHolds .rising s.prevValid (s.prev.on ch) (x.on ch) = s.rises ch x ∧
    constraintHolds .falling s.prevValid (s.prev.on ch) (x.on ch) = s.falls ch x ∧
    constraintHolds .high s.prevValid (s.prev.on ch) (x.on ch) = high (x.on ch) ∧
    constraintHolds .low s.prevValid (s.prev.on ch) (x.on ch) = low (x.on ch)

/-- R105, 40_scanner.md: no edge while `prevValid = 0`, the level predicates unaffected, and `prevValid` is 0 at reset
and 1 after any sample. -/
def Obligations.FirstSampleHasNoEdge : Prop :=
  (∀ (s : State) (x : Sample) (ch : Channel), s.prevValid = false →
    s.rises ch x = false ∧ s.falls ch x = false ∧
    constraintHolds .high s.prevValid (s.prev.on ch) (x.on ch) = x.on ch ∧
    constraintHolds .low s.prevValid (s.prev.on ch) (x.on ch) = !(x.on ch)) ∧
  State.reset.prevValid = false ∧
  ∀ (s : State) (x : Sample), ∃ t : State, step (s.supplied x) = .next t ∧ t.prevValid = true

/-- R106, 40_scanner.md, with R21's `idx <- idx + 1`: whatever the phase and whether or not the condition held. -/
def Obligations.EverySampleMovesTheEdgeDetector : Prop :=
  ∀ (s : State) (x : Sample), ∃ t : State, step (s.supplied x) = .next t ∧
    t.prevD = x.d ∧ t.prevC = x.c ∧ t.prevValid = true ∧ t.idx = s.idx + 1 ∧ t.input = s.input ∧
    t.sampleRate = s.sampleRate

/-- R100, 40_scanner.md: the phase's condition is tested on the sample; the operation runs if it holds and the sample is
discarded if not; the edge detector updates in either case. -/
def Obligations.SampleRunsItsPhaseOrIsDiscarded : Prop :=
  ∀ (s : State) (x : Sample), s.fault = false → s.unreachable = false →
    step (s.supplied x) =
      if s.conditionHolds x then onNext (exec (condInstr s.phase x.d) s.quiet) (fun t => t.advance x)
      else .next (s.quiet.advance x)

/-- 30_encoding.md sections 2 and 3: the patterns of the condition rows and the conditions of the scanner are the same
test. -/
def Obligations.DecoderAgreesWithTheScanner : Prop :=
  ∀ (s : State) (x : Sample), (decode (s.codeWord x)).isInstr = s.conditionHolds x

/-- 30_encoding.md section 2, "A pattern matches the current sample when every `0` and `1` character equals the
corresponding bit": for every well-formed ConditionSpec, not only the eight the block uses. -/
def Obligations.PatternFitsExactlyWhenTheSpecHolds : Prop :=
  ∀ (spec : ConditionSpec) (p : CondPattern) (prevValid : Bool) (prev cur : Sample) (elapsed : Nat),
    spec.wellFormed = true → patternOf spec = some p →
      p.fits prevValid (packCond prev.d prev.c cur.d cur.c) = specHolds spec prevValid prev cur elapsed

/-- R254, 60_exceptions.md: the block's table passes the check, and a table that fails it is refused. -/
def Obligations.IllFormedConditionTableIsRefused : Prop :=
  (∀ p : Phase, (buildConditionTable conditionTable).map (· p) = some (conditionTable p)) ∧
  ∀ (table : Phase → ConditionSpec) (p : Phase), (table p).wellFormed = false → buildConditionTable table = none

/-! ### The frame synchroniser -/

/-- R131, 41_frame_assembler.md. -/
def Obligations.StartConditionOpensAFrame : Prop :=
  (∀ s : State, exec .condAwaitStart s =
    .next { s with startIdx := s.idx, addr := 0#7, bitCnt := 0#3, phase := .addr }) ∧
  PhaseWaitsFor .awaitStart (fun s x => s.falls .data x && high x.c) (fun _ => .condAwaitStart)

/-- R132, 41_frame_assembler.md. In `ADDR` the bit count is 0 to 6; 7 is the unreachable state of R253. -/
def Obligations.AddressBitIsShiftedIn : Prop :=
  (∀ (d : Bool) (s : State), s.bitCnt ≠ 7#3 → ∃ t : State, exec (.condAddr d) s = .next t ∧
    t.addr.toNat = (2 * s.addr.toNat + d.toNat) % 128 ∧
    (∀ k : Fin 7, t.aIdx[k] = if k.val = s.bitCnt.toNat then s.idx else s.aIdx[k]) ∧
    (s.bitCnt = 6#3 → t.bitCnt = 0#3 ∧ t.phase = .dir) ∧
    (s.bitCnt ≠ 6#3 → t.bitCnt.toNat = s.bitCnt.toNat + 1 ∧ t.phase = .addr) ∧
    t = { s with addr := t.addr, aIdx := t.aIdx, bitCnt := t.bitCnt, phase := t.phase }) ∧
  PhaseWaitsFor .addr (fun s x => s.rises .clock x) .condAddr

/-- R133, 41_frame_assembler.md. -/
def Obligations.DirectionBitIsLatched : Prop :=
  (∀ (d : Bool) (s : State), exec (.condDir d) s = .next { s with dir := d, dIdx := s.idx, phase := .sep1 }) ∧
  PhaseWaitsFor .dir (fun s x => s.rises .clock x) .condDir

/-- R134, 41_frame_assembler.md. -/
def Obligations.SeparatorOneSelectsTheValueTiming : Prop :=
  (∀ (d : Bool) (s : State), exec (.condSep1 d) s = .next { s with
    sep1 := d, s1Idx := s.idx, value := 0#8, bitCnt := 0#3,
    phase := if s.dir = true then .valRFall else .valW }) ∧
  PhaseWaitsFor .sep1 (fun s x => s.rises .clock x) .condSep1

/-- R135, 41_frame_assembler.md. -/
def Obligations.WriteValueBitIsShiftedIn : Prop :=
  (∀ (d : Bool) (s : State), ∃ t : State, exec (.condValW d) s = .next t ∧
    t.value.toNat = (2 * s.value.toNat + d.toNat) % 256 ∧
    (∀ k : Fin 8, t.vIdx[k] = if k.val = s.bitCnt.toNat then s.idx else s.vIdx[k]) ∧
    (s.bitCnt = 7#3 → t.bitCnt = 0#3 ∧ t.phase = .sep2) ∧
    (s.bitCnt ≠ 7#3 → t.bitCnt.toNat = s.bitCnt.toNat + 1 ∧ t.phase = .valW) ∧
    t = { s with value := t.value, vIdx := t.vIdx, bitCnt := t.bitCnt, phase := t.phase }) ∧
  PhaseWaitsFor .valW (fun s x => s.rises .clock x) .condValW

/-- R136, 41_frame_assembler.md. -/
def Obligations.ReadValueBitAwaitsTheFall : Prop :=
  (∀ s : State, exec .condValRFall s = .next { s with phase := .valRSkip }) ∧
  PhaseWaitsFor .valRFall (fun s x => s.falls .clock x) (fun _ => .condValRFall)

/-- R137, 41_frame_assembler.md: on every sample. -/
def Obligations.ReadValueBitIsShiftedInAfterTheSkip : Prop :=
  (∀ (d : Bool) (s : State), ∃ t : State, exec (.condValRSkip d) s = .next t ∧
    t.value.toNat = (2 * s.value.toNat + d.toNat) % 256 ∧
    (∀ k : Fin 8, t.vIdx[k] = if k.val = s.bitCnt.toNat then s.idx else s.vIdx[k]) ∧
    (s.bitCnt = 7#3 → t.bitCnt = 0#3 ∧ t.phase = .sep2) ∧
    (s.bitCnt ≠ 7#3 → t.bitCnt.toNat = s.bitCnt.toNat + 1 ∧ t.phase = .valRFall) ∧
    t = { s with value := t.value, vIdx := t.vIdx, bitCnt := t.bitCnt, phase := t.phase }) ∧
  PhaseWaitsFor .valRSkip (fun _ _ => true) .condValRSkip

/-- R138, R139, R140, 41_frame_assembler.md: the transaction is formed from the registers at the start of the step,
delivered, classified against the session at the start of the step, and its records are emitted. -/
def Obligations.SeparatorTwoCommitsTheFrame : Prop :=
  (∀ (d : Bool) (s : State),
    let tx : Transaction := ⟨s.addr, if s.dir = true then .read else .write, s.value, s.startIdx, s.idx⟩
    exec (.condSep2 d) s = .next { s with
      sep2 := d
      txPort := some tx
      session := (classify tx s.session).session
      recPort := s.frameRecords ⟨tx.address, tx.direction, s.sep1, tx.value, d⟩ (classify tx s.session).act
      phase := .awaitStart
      bitCnt := 0#3 }) ∧
  PhaseWaitsFor .sep2 (fun s x => s.rises .clock x) .condSep2

/-- R130, 41_frame_assembler.md: the transition table, for every phase, both directions and every count a phase can
hold. -/
def Obligations.PhaseMovesAlongTheTransitionTable : Prop :=
  ∀ (s : State) (x : Sample), s.fault = false → s.unreachable = false → ∃ t : State,
    step (s.supplied x) = .next t ∧
    (t.phase, t.bitCnt) = if s.conditionHolds x then transition s.phase s.bitCnt s.dir else (s.phase, s.bitCnt)

/-- R141, 41_frame_assembler.md: a commit leaves `AWAIT_START`, and only a start condition leads on from there. -/
def Obligations.EveryFrameNeedsItsOwnStart : Prop :=
  ∀ (s t : State) (x : Sample), step (s.supplied x) = .next t →
    (s.commits x = true → t.phase = .awaitStart) ∧
    (s.phase = .awaitStart → t.phase ≠ .awaitStart → s.falls .data x = true ∧ x.c = true ∧ t.startIdx = s.idx)

/-- The spec's own inference in 41_frame_assembler.md section 4: "Outside `AWAIT_START`, the start condition has no
effect." -/
def Obligations.StartConditionInsideAFrameIsIgnored : Prop :=
  ∀ (s t : State) (x : Sample), s.phase ≠ .awaitStart → s.falls .data x = true → x.c = true →
    step (s.supplied x) = .next t →
      t.startIdx = s.startIdx ∧ (t.phase = .addr → s.phase = .addr) ∧
      (s.prevC = true → s.phase ≠ .valRSkip → t.phase = s.phase ∧ t.bitCnt = s.bitCnt ∧ t.addr = s.addr)

/-- R147, 41_frame_assembler.md: the phases other than the commit write no session register, and the commit writes them
as the classifier says. -/
def Obligations.PhasesKeepTheSession : Prop :=
  (∀ (p : Phase) (d : Bool) (s t : State), p ≠ .sep2 → exec (condInstr p d) s = .next t → t.session = s.session) ∧
  ∀ (d : Bool) (s t : State), exec (.condSep2 d) s = .next t →
    t.session = (classify (s.transaction (s.frame d)) s.session).session

/-! ### Decoding -/

/-- A step runs the decoded operation: on a sample whose code word decodes to `i`, the step is `exec i` on the state with
empty ports, and then the edge detector's update (41_frame_assembler.md section 4, the whole step). -/
def Obligations.StepRunsTheDecodedOperation : Prop :=
  ∀ (s : State) (x : Sample) (i : Instr), s.fault = false → s.unreachable = false →
    decode (s.codeWord x) = .instr i →
      step (s.supplied x) = onNext (exec i s.quiet) (fun t => t.advance x)

/-- The commit runs the classifier row that the frame word decodes to (30_encoding.md section 1, 42_classifier.md
section 1; log entry 11). -/
def Obligations.CommitRunsTheDecodedFrame : Prop :=
  ∀ (d : Bool) (s : State),
    exec (.condSep2 d) s = exec (decodeFrame (packFrame s.addr s.dir s.sep1 s.value d)) s

/-- An operation placed where the next step fetches it is the operation the next step runs (the model's `State.present`,
log entry 10). -/
def Obligations.PresentedOperationRunsNext : Prop :=
  ∀ (i : Instr) (s : State), i.wellFormed = true →
    ∃ (u : State) (x : Sample), s.present (encode i) = u.supplied x ∧ u.input = s.input ∧
      step (s.present (encode i)) = onNext (exec i u.quiet) (fun t => t.advance x)

/-- 30_encoding.md sections 1 to 3: every operand of every operation survives encoding and decoding. -/
def Obligations.DecodeUndoesEncode : Prop :=
  ∀ i : Instr, i.wellFormed = true → decode (encode i) = .instr i

/-- 30_encoding.md sections 1 and 3, "No frame word is illegal": every frame word is the encoding of exactly the
well-formed operation it decodes to. -/
def Obligations.EncodeUndoesDecodeOfFrames : Prop :=
  ∀ fw : FrameWord, (decodeFrame fw).wellFormed = true ∧ encode (decodeFrame fw) = .frame fw ∧
    ∀ i : Instr, i.wellFormed = true → encode i = .frame fw → i = decodeFrame fw

/-- 30_encoding.md section 1: the decoder picks the row of spec/opcode_table.json that matches, the rows that are not
fall-through never overlap, and a fall-through row applies only when none of them matches. -/
def Obligations.DecoderPicksTheMatchingRow : Prop :=
  ∀ fw : FrameWord,
    (∃ r, (decodeFrame fw).frameRow? = some r ∧ r.fits fw = true) ∧
    ∀ (i : Instr) (r : FrameRow), i.frameRow? = some r → r.fits fw = true →
      (∀ s v t, i ≠ .wRwCtlOther s v t) → (∀ a s v t, i ≠ .wUnmatched a s v t) →
      (∀ a s v t, i ≠ .rUnmatched a s v t) → (decodeFrame fw).frameRow? = some r

/-- Words written out from the encoding strings of spec/opcode_table.json, and the table's number of a frame word. -/
def Obligations.WordsOfTheTableDecode : Prop :=
  decodeFrame 0b000000001000000011#18 = .wAddr0L true 0x01 true ∧
  decodeFrame 0b001000000100100010#18 = .wBrkCtl false 0x91 false ∧
  decodeFrame 0b001011001000000111#18 = .wRwCtlRead true 3 true ∧
  decodeFrame 0b001011000100001110#18 = .wRwCtlWrite false 7 false ∧
  decodeFrame 0b000001111101101001#18 = .rStat true 0xb4 true ∧
  decodeFrame 0b001000011011110001#18 = .rRdL true 0x78 true ∧
  decode (.cond .awaitStart true 0b1001#4) = .instr .condAwaitStart ∧
  decode (.cond .dir true 0b1011#4) = .instr (.condDir true) ∧
  decode (.cond .valRFall true 0b0110#4) = .instr .condValRFall ∧
  ∀ fw : FrameWord, decodeTableWord 24 fw.toNat = some (decodeFrame fw)

/-! ### The classifier's entries -/

/-- 42_classifier.md section 2, the twelve address writes: each displays its lane and changes no session register. That
`exec` of a row is the whole commit of its frame is the model's choice (log entry 11), so the next state also has the
commit's writes of `sep2`, `phase` and `bitCnt` (R138, R140). -/
def Obligations.AddressWritesDisplayTheirLane : Prop :=
  ∀ (sep1 : Bool) (v : Byte) (sep2 : Bool),
    CommitsAs (.wAddr0L sep1 v sep2) ⟨0x00#7, .write, sep1, v, sep2⟩ (fun _ => some (.addrReg 0 .low v))
      (fun _ => some ("ADDR0_L = " ++ hex v.toNat)) id ∧
    CommitsAs (.wAddr0H sep1 v sep2) ⟨0x01#7, .write, sep1, v, sep2⟩ (fun _ => some (.addrReg 0 .high v))
      (fun _ => some ("ADDR0_H = " ++ hex v.toNat)) id ∧
    CommitsAs (.wAddr0U sep1 v sep2) ⟨0x02#7, .write, sep1, v, sep2⟩ (fun _ => some (.addrReg 0 .upper v))
      (fun _ => some ("ADDR0_U = " ++ hex v.toNat)) id ∧
    CommitsAs (.wAddr1L sep1 v sep2) ⟨0x04#7, .write, sep1, v, sep2⟩ (fun _ => some (.addrReg 1 .low v))
      (fun _ => some ("ADDR1_L = " ++ hex v.toNat)) id ∧
    CommitsAs (.wAddr1H sep1 v sep2) ⟨0x05#7, .write, sep1, v, sep2⟩ (fun _ => some (.addrReg 1 .high v))
      (fun _ => some ("ADDR1_H = " ++ hex v.toNat)) id ∧
    CommitsAs (.wAddr1U sep1 v sep2) ⟨0x06#7, .write, sep1, v, sep2⟩ (fun _ => some (.addrReg 1 .upper v))
      (fun _ => some ("ADDR1_U = " ++ hex v.toNat)) id ∧
    CommitsAs (.wAddr2L sep1 v sep2) ⟨0x08#7, .write, sep1, v, sep2⟩ (fun _ => some (.addrReg 2 .low v))
      (fun _ => some ("ADDR2_L = " ++ hex v.toNat)) id ∧
    CommitsAs (.wAddr2H sep1 v sep2) ⟨0x09#7, .write, sep1, v, sep2⟩ (fun _ => some (.addrReg 2 .high v))
      (fun _ => some ("ADDR2_H = " ++ hex v.toNat)) id ∧
    CommitsAs (.wAddr2U sep1 v sep2) ⟨0x0a#7, .write, sep1, v, sep2⟩ (fun _ => some (.addrReg 2 .upper v))
      (fun _ => some ("ADDR2_U = " ++ hex v.toNat)) id ∧
    CommitsAs (.wAddr3L sep1 v sep2) ⟨0x0c#7, .write, sep1, v, sep2⟩ (fun _ => some (.addrReg 3 .low v))
      (fun _ => some ("ADDR3_L = " ++ hex v.toNat)) id ∧
    CommitsAs (.wAddr3H sep1 v sep2) ⟨0x0d#7, .write, sep1, v, sep2⟩ (fun _ => some (.addrReg 3 .high v))
      (fun _ => some ("ADDR3_H = " ++ hex v.toNat)) id ∧
    CommitsAs (.wAddr3U sep1 v sep2) ⟨0x0e#7, .write, sep1, v, sep2⟩ (fun _ => some (.addrReg 3 .upper v))
      (fun _ => some ("ADDR3_U = " ++ hex v.toNat)) id

/-- 42_classifier.md sections 2 and 3: breakpoint control, status and memory are displayed for every value, 0 included,
and no session register changes. That `exec` of a row is the whole commit of its frame is the model's choice (log entry
11), so the next state also has the commit's writes of `sep2`, `phase` and `bitCnt` (R138, R140). -/
def Obligations.BreakpointStatusAndMemoryAreDisplayed : Prop :=
  ∀ (sep1 : Bool) (v : Byte) (sep2 : Bool),
    CommitsAs (.wBrkCtl sep1 v sep2) ⟨0x10#7, .write, sep1, v, sep2⟩ (fun _ => some (.brkCtl v))
      (fun _ => some ("BRK_CTL = " ++ brkFlags v)) id ∧
    CommitsAs (.rStat sep1 v sep2) ⟨0x03#7, .read, sep1, v, sep2⟩ (fun _ => some (.stat v))
      (fun _ => some ("STAT = " ++ statFlags v)) id ∧
    CommitsAs (.rRdMem sep1 v sep2) ⟨0x20#7, .read, sep1, v, sep2⟩ (fun _ => some (.rdMem v))
      (fun _ => some ("RD_MEM = " ++ hex v.toNat)) id

/-- 42_classifier.md section 2: one byte lane of `acc` is replaced, the other two are unchanged, and there is no action.
That `exec` of a row is the whole commit of its frame is the model's choice (log entry 11), so the next state also has
the commit's writes of `sep2`, `phase` and `bitCnt` (R138, R140). -/
def Obligations.AccumulatorWritesReplaceOneLane : Prop :=
  ∀ (sep1 : Bool) (v : Byte) (sep2 : Bool),
    CommitsAs (.wWrDataL sep1 v sep2) ⟨0x13#7, .write, sep1, v, sep2⟩ (fun _ => none) (fun _ => none)
      (fun ses => { ses with acc := ses.acc.extractLsb' 16 8 ++ ses.acc.extractLsb' 8 8 ++ v }) ∧
    CommitsAs (.wWrDataH sep1 v sep2) ⟨0x14#7, .write, sep1, v, sep2⟩ (fun _ => none) (fun _ => none)
      (fun ses => { ses with acc := ses.acc.extractLsb' 16 8 ++ v ++ ses.acc.extractLsb' 0 8 }) ∧
    CommitsAs (.wWrDataU sep1 v sep2) ⟨0x15#7, .write, sep1, v, sep2⟩ (fun _ => none) (fun _ => none)
      (fun ses => { ses with acc := v ++ ses.acc.extractLsb' 8 8 ++ ses.acc.extractLsb' 0 8 })

/-- 42_classifier.md section 2, the 0x16 writes: the value of the frame is the row's, `r` in its low three bits; only
the select writes `sel`, and the write dispatch reads `acc` and keeps it. That `exec` of a row is the whole commit of
its frame is the model's choice (log entry 11), so the next state also has the commit's writes of `sep2`, `phase` and
`bitCnt` (R138, R140). -/
def Obligations.ReadWriteControlDispatches : Prop :=
  ∀ (sep1 : Bool) (r : RegIdx) (sep2 : Bool),
    CommitsAs (.wRwCtlRead sep1 r sep2) ⟨0x16#7, .write, sep1, BitVec.ofNat 8 r.toNat, sep2⟩
      (fun _ => some (.rwRead r)) (fun _ => some ("Read " ++ regName r)) (fun ses => { ses with sel := r }) ∧
    CommitsAs (.wRwCtlSetAdl sep1 sep2) ⟨0x16#7, .write, sep1, 0x08#8, sep2⟩ (fun _ => some .setAdl)
      (fun _ => some "Set ADL") id ∧
    CommitsAs (.wRwCtlResetAdl sep1 sep2) ⟨0x16#7, .write, sep1, 0x09#8, sep2⟩ (fun _ => some .resetAdl)
      (fun _ => some "Reset ADL") id ∧
    CommitsAs (.wRwCtlWrite sep1 r sep2) ⟨0x16#7, .write, sep1, BitVec.ofNat 8 (0x80 + r.toNat), sep2⟩
      (fun ses => some (.rwWrite r ses.acc))
      (fun ses => some ("Write " ++ regName r ++ " = " ++ hex ses.acc.toNat)) id

/-- 42_classifier.md sections 2 and 3, and 60_exceptions.md section 1: no action, no session change, the transaction and
the 21 framing records as for any frame. That `exec` of a row is the whole commit of its frame is the model's choice
(log entry 11), so the next state also has the commit's writes of `sep2`, `phase` and `bitCnt` (R138, R140). -/
def Obligations.UnmatchedTransactionsHaveNoAction : Prop :=
  ∀ (a : Addr) (sep1 : Bool) (v : Byte) (sep2 : Bool),
    ((0x0a ≤ v.toNat ∧ v.toNat ≤ 0x7f) ∨ 0x88 ≤ v.toNat →
      CommitsAs (.wRwCtlOther sep1 v sep2) ⟨0x16#7, .write, sep1, v, sep2⟩ (fun _ => none) (fun _ => none) id) ∧
    (a ∉ writeAddresses →
      CommitsAs (.wUnmatched a sep1 v sep2) ⟨a, .write, sep1, v, sep2⟩ (fun _ => none) (fun _ => none) id) ∧
    (a ∉ readAddresses →
      CommitsAs (.rUnmatched a sep1 v sep2) ⟨a, .read, sep1, v, sep2⟩ (fun _ => none) (fun _ => none) id) ∧
    ∀ s : State, (s.frameRecords ⟨a, .write, sep1, v, sep2⟩ none).length = 21 ∧
      (s.frameRecords ⟨a, .read, sep1, v, sep2⟩ none).length = 21

/-- 42_classifier.md section 2: "address increasing ⇒ index decreasing". That `exec` of a row is the whole commit of its
frame is the model's choice (log entry 11), so the next state also has the commit's writes of `sep2`, `phase` and
`bitCnt` (R138, R140). -/
def Obligations.InstructionStoreWritesAreDisplayed : Prop :=
  ∀ (sep1 : Bool) (v : Byte) (sep2 : Bool),
    CommitsAs (.wIs4 sep1 v sep2) ⟨0x21#7, .write, sep1, v, sep2⟩ (fun _ => some (.is 4 v))
      (fun _ => some ("IS4 = " ++ hex v.toNat)) id ∧
    CommitsAs (.wIs3 sep1 v sep2) ⟨0x22#7, .write, sep1, v, sep2⟩ (fun _ => some (.is 3 v))
      (fun _ => some ("IS3 = " ++ hex v.toNat)) id ∧
    CommitsAs (.wIs2 sep1 v sep2) ⟨0x23#7, .write, sep1, v, sep2⟩ (fun _ => some (.is 2 v))
      (fun _ => some ("IS2 = " ++ hex v.toNat)) id ∧
    CommitsAs (.wIs1 sep1 v sep2) ⟨0x24#7, .write, sep1, v, sep2⟩ (fun _ => some (.is 1 v))
      (fun _ => some ("IS1 = " ++ hex v.toNat)) id ∧
    CommitsAs (.wIs0 sep1 v sep2) ⟨0x25#7, .write, sep1, v, sep2⟩ (fun _ => some (.is 0 v))
      (fun _ => some ("IS0 = " ++ hex v.toNat)) id

/-- 42_classifier.md section 3: the lane of the register that `sel` names at the start of the step takes the value and
its valid bit; the other lanes and registers, `acc` and `sel` are unchanged. That `exec` of a row is the whole commit of
its frame is the model's choice (log entry 11), so the next state also has the commit's writes of `sep2`, `phase` and
`bitCnt` (R138, R140). -/
def Obligations.RegisterReadsUpdateTheShadowLane : Prop :=
  ∀ (sep1 : Bool) (v : Byte) (sep2 : Bool), ∃ low high upper : Session → Session,
    CommitsAs (.rRdL sep1 v sep2) ⟨0x10#7, .read, sep1, v, sep2⟩ (fun ses => some (.rdReg ses.sel .low v))
      (fun ses => some (regName ses.sel ++ "_L = " ++ hex v.toNat)) low ∧
    CommitsAs (.rRdH sep1 v sep2) ⟨0x11#7, .read, sep1, v, sep2⟩ (fun ses => some (.rdReg ses.sel .high v))
      (fun ses => some (regName ses.sel ++ "_H = " ++ hex v.toNat)) high ∧
    CommitsAs (.rRdU sep1 v sep2) ⟨0x12#7, .read, sep1, v, sep2⟩ (fun ses => some (.rdReg ses.sel .upper v))
      (fun ses => some (regName ses.sel ++ "_U = " ++ hex v.toNat)) upper ∧
    ∀ (upd : Session → Session) (l : Lane),
      (upd = low ∧ l = .low) ∨ (upd = high ∧ l = .high) ∨ (upd = upper ∧ l = .upper) → ∀ (ses : Session),
        (upd ses).acc = ses.acc ∧ (upd ses).sel = ses.sel ∧
        ∀ (r : RegIdx) (m : Lane),
          (upd ses).shadowAt r m = (if r = ses.sel ∧ m = l then v else ses.shadowAt r m) ∧
          (upd ses).validAt r m = (if r = ses.sel ∧ m = l then true else ses.validAt r m)

/-- R77, R78, 30_encoding.md: the decode map by address, direction and, for 0x16 written, value, in arithmetic on the
address rather than row by row. -/
def Obligations.ClassifierFollowsTheDecodeMap : Prop :=
  ∀ (a : Addr) (v : Byte) (ses : Session) (st en : Nat),
    let w := classify ⟨a, .write, v, st, en⟩ ses
    let r := classify ⟨a, .read, v, st, en⟩ ses
    (∀ (n : Fin 4) (l : Lane), a.toNat = 4 * n.val + laneNumber l → w = ⟨some (.addrReg n l v), ses⟩) ∧
    (a = 0x10#7 → w = ⟨some (.brkCtl v), ses⟩) ∧
    (∀ l : Lane, a.toNat = 0x13 + laneNumber l → w = ⟨none, ses.writeAcc l v⟩) ∧
    (a = 0x16#7 → v.toNat < 8 → w = ⟨some (.rwRead (v.setWidth 3)), { ses with sel := v.setWidth 3 }⟩) ∧
    (a = 0x16#7 → v = 8#8 → w = ⟨some .setAdl, ses⟩) ∧
    (a = 0x16#7 → v = 9#8 → w = ⟨some .resetAdl, ses⟩) ∧
    (a = 0x16#7 → 0x80 ≤ v.toNat ∧ v.toNat ≤ 0x87 → w = ⟨some (.rwWrite (v.setWidth 3) ses.acc), ses⟩) ∧
    (a = 0x16#7 → (0x0a ≤ v.toNat ∧ v.toNat ≤ 0x7f) ∨ 0x88 ≤ v.toNat → w = ⟨none, ses⟩) ∧
    (∀ k : Fin 5, a.toNat + k.val = 0x25 → w = ⟨some (.is k v), ses⟩) ∧
    (a ∉ writeAddresses → w = ⟨none, ses⟩) ∧
    (a = 0x03#7 → r = ⟨some (.stat v), ses⟩) ∧
    (∀ l : Lane, a.toNat = 0x10 + laneNumber l → r = ⟨some (.rdReg ses.sel l v), ses.observe l v⟩) ∧
    (a = 0x20#7 → r = ⟨some (.rdMem v), ses⟩) ∧
    (a ∉ readAddresses → r = ⟨none, ses⟩)

/-- R74, 30_encoding.md: the separators change no register but `sep1` and `sep2`, and of the outputs they reach only the
separator records. -/
def Obligations.SeparatorsReachOnlyTheirRecords : Prop :=
  (∀ (s : State) (d e : Bool), ∃ t : State,
    exec (.condSep1 d) s = .next t ∧ exec (.condSep1 e) s = .next { t with sep1 := e }) ∧
  ∀ (s : State) (b d e : Bool), ∃ t u : State,
    exec (.condSep2 d) s = .next t ∧ exec (.condSep2 e) { s with sep1 := b } = .next u ∧
    u = { t with sep1 := b, sep2 := e, recPort := u.recPort } ∧
    u.recPort.filter (fun r => r.cls ≠ .separator) = t.recPort.filter (fun r => r.cls ≠ .separator)

/-- 10_state.md section 5: which transactions write which session register. -/
def Obligations.EachSessionRegisterHasItsWriters : Prop :=
  ∀ (s t : State) (x : Sample), step (s.supplied x) = .next t →
    (t.session.acc ≠ s.session.acc →
      s.commits x = true ∧ s.dir = false ∧ (s.addr = 0x13#7 ∨ s.addr = 0x14#7 ∨ s.addr = 0x15#7)) ∧
    (t.session.sel ≠ s.session.sel →
      s.commits x = true ∧ s.dir = false ∧ s.addr = 0x16#7 ∧ s.value.toNat < 8) ∧
    (t.session.shadow ≠ s.session.shadow ∨ t.session.shadowValid ≠ s.session.shadowValid →
      s.commits x = true ∧ s.dir = true ∧ (s.addr = 0x10#7 ∨ s.addr = 0x11#7 ∨ s.addr = 0x12#7))

/-- 42_classifier.md section 4 and the document's accumulator property: three lane writes, in the order L, H, U, and two
dispatches report the 24-bit value twice; the accumulator is never cleared by use. One value stands for all ten
separator bits. Chaining `exec` of five rows with no frames between them rests on the model's choice that `exec` of a
row is the whole commit of its frame (log entry 11). -/
def Obligations.ThreeLaneWritesAssembleTheAccumulator : Prop :=
  ∀ (s : State) (b : Bool) (l h u : Byte) (r q : RegIdx), ∃ s1 s2 s3 s4 s5 : State,
    exec (.wWrDataL b l b) s = .next s1 ∧ exec (.wWrDataH b h b) s1 = .next s2 ∧
    exec (.wWrDataU b u b) s2 = .next s3 ∧ exec (.wRwCtlWrite b r b) s3 = .next s4 ∧
    exec (.wRwCtlWrite b q b) s4 = .next s5 ∧
    s4.recPort.getLast? = some ⟨s.startIdx, s.idx, .action, .act (.rwWrite r (u ++ h ++ l))⟩ ∧
    s5.recPort.getLast? = some ⟨s.startIdx, s.idx, .action, .act (.rwWrite q (u ++ h ++ l))⟩

/-! ### Ports and records -/

/-- R83, 30_encoding.md: exactly the commit steps present a transaction, matched or not. -/
def Obligations.TransactionPortPresentsExactlyTheCommits : Prop :=
  (∀ (s : State) (x : Sample), ∃ t : State, step (s.supplied x) = .next t ∧
    t.txPort = if s.commits x = true
      then some ⟨s.addr, if s.dir = true then .read else .write, s.value, s.startIdx, s.idx⟩ else none) ∧
  ∀ s t : State, (∀ x rest, s.input ≠ .sample x :: rest) → step s = .next t → t.txPort = none

/-- The spec's own inference in 43_annotation_output.md section 1: 21 records without an action, 22 with one, none in any
other step. -/
def Obligations.CommitEmitsTwentyOneOrTwentyTwoRecords : Prop :=
  ∀ (s : State) (x : Sample), ∃ t : State, step (s.supplied x) = .next t ∧
    t.recPort.length =
      if s.commits x = true then
        if (classify ⟨s.addr, if s.dir = true then .read else .write, s.value, s.startIdx, s.idx⟩ s.session).act = none
        then 21 else 22
      else 0

/-- R221, 43_annotation_output.md: the list, its order, windows and payloads. -/
def Obligations.FrameRecordsInOrder : Prop :=
  ∀ (s : State) (f : Frame) (act : Option Action),
    let w : Nat → Nat × Nat := fun i => if f.dir = .read then (i - 1, i) else (i, i + 1)
    s.frameRecords f act =
      [⟨s.startIdx, s.startIdx + 1, .start, .none⟩,
       ⟨s.aIdx[0], s.aIdx[0] + 1, .bit, .bit (f.addr.getLsbD 6)⟩,
       ⟨s.aIdx[1], s.aIdx[1] + 1, .bit, .bit (f.addr.getLsbD 5)⟩,
       ⟨s.aIdx[2], s.aIdx[2] + 1, .bit, .bit (f.addr.getLsbD 4)⟩,
       ⟨s.aIdx[3], s.aIdx[3] + 1, .bit, .bit (f.addr.getLsbD 3)⟩,
       ⟨s.aIdx[4], s.aIdx[4] + 1, .bit, .bit (f.addr.getLsbD 2)⟩,
       ⟨s.aIdx[5], s.aIdx[5] + 1, .bit, .bit (f.addr.getLsbD 1)⟩,
       ⟨s.aIdx[6], s.aIdx[6] + 1, .bit, .bit (f.addr.getLsbD 0)⟩,
       ⟨s.aIdx[0], s.dIdx, .register, .addr f.addr⟩,
       ⟨s.dIdx, s.dIdx + 1, .direction, .dir f.dir⟩,
       ⟨s.s1Idx, s.s1Idx + 1, .separator, .bit f.sep1⟩,
       ⟨(w s.vIdx[0]).1, (w s.vIdx[0]).2, .bit, .bit (f.value.getLsbD 7)⟩,
       ⟨(w s.vIdx[1]).1, (w s.vIdx[1]).2, .bit, .bit (f.value.getLsbD 6)⟩,
       ⟨(w s.vIdx[2]).1, (w s.vIdx[2]).2, .bit, .bit (f.value.getLsbD 5)⟩,
       ⟨(w s.vIdx[3]).1, (w s.vIdx[3]).2, .bit, .bit (f.value.getLsbD 4)⟩,
       ⟨(w s.vIdx[4]).1, (w s.vIdx[4]).2, .bit, .bit (f.value.getLsbD 3)⟩,
       ⟨(w s.vIdx[5]).1, (w s.vIdx[5]).2, .bit, .bit (f.value.getLsbD 2)⟩,
       ⟨(w s.vIdx[6]).1, (w s.vIdx[6]).2, .bit, .bit (f.value.getLsbD 1)⟩,
       ⟨(w s.vIdx[7]).1, (w s.vIdx[7]).2, .bit, .bit (f.value.getLsbD 0)⟩,
       ⟨s.idx, s.idx + 1, .separator, .bit f.sep2⟩,
       ⟨s.vIdx[0], s.idx, .value, .val f.value⟩]
      ++ (match act with | some a => [⟨s.startIdx, s.idx, .action, .act a⟩] | none => [])

/-- R84, 30_encoding.md, and R234, 43_annotation_output.md: the class identifiers and their display rows; no other
identifier exists, and every emitted payload is its class's. -/
def Obligations.RecordClassesAndRows : Prop :=
  ([RecClass.start, .bit, .separator, .direction, .register, .value, .action].map classId = [0, 1, 2, 3, 4, 5, 6]) ∧
  (∀ c : RecClass, classId c ≤ 6 ∧
    (displayRow c = .bitLevel ↔ classId c ≤ 3) ∧ (displayRow c = .commandLevel ↔ classId c = 4 ∨ classId c = 5) ∧
    (displayRow c = .actionLevel ↔ classId c = 6)) ∧
  ∀ (s : State) (f : Frame) (act : Option Action), ∀ r ∈ s.frameRecords f act, r.payloadFitsClass = true

/-! ### The fault bit -/

/-- 60_exceptions.md section 1: a step that begins in the unreachable state sets `fault`; that it does so whatever its
sample is the model's reading (DEDUCED, unsafe for that state on a sample without a clock rise, log entry 13). With
`fault` = 1 only the edge detector and the index move; only `rst` clears it; such a state is no clean end. No run of
samples from reset gets there: the spec's own inference, "From reset, and with correct hardware, `fault` stays 0
forever". -/
def Obligations.UnreachableStateFreezesTheBlock : Prop :=
  (∀ (s : State) (x : Sample), s.fault = false → s.phase = .addr → s.bitCnt = 7#3 →
    step (s.supplied x) = .next { s with
      fault := true, prevD := x.d, prevC := x.c, prevValid := true, idx := s.idx + 1, txPort := none, recPort := [] }) ∧
  (∀ (s : State) (x : Sample), s.fault = true →
    step (s.supplied x) = .next { s with
      prevD := x.d, prevC := x.c, prevValid := true, idx := s.idx + 1, txPort := none, recPort := [] }) ∧
  (∀ s t : State, s.fault = true → step s = .next t → t.fault = false → ∃ x rest, s.input = .rst x :: rest) ∧
  (∀ s : State, s.fault = true → ¬ s.cleanEnd) ∧
  ∀ xs : List Sample, ∃ o, runSamples State.reset xs = some o ∧ o.final.fault = false

/-! ### What reaches no output -/

/-- 10_state.md section 5 and 20_memory.md section 5: the sample rate has no effect on any output. -/
def Obligations.SampleRateHasNoEffect : Prop :=
  ∀ (s : State) (x : Sample) (r : Option Int),
    step (State.supplied { s with sampleRate := r } x) =
      onNext (step (s.supplied x)) (fun t => { t with sampleRate := r })

/-- 10_state.md section 5: the shadow file and its valid bits reach no output. -/
def Obligations.ShadowReachesNoOutput : Prop :=
  ∀ (s t u : State) (x : Sample) (sh : Vector (Lanes Byte) 8) (sv : Vector (Lanes Bool) 8),
    step (s.supplied x) = .next t →
    step (State.supplied { s with session := { s.session with shadow := sh, shadowValid := sv } } x) = .next u →
      u = { t with session := { t.session with shadow := u.session.shadow, shadowValid := u.session.shadowValid } }

/-- 10_state.md section 2: "no output depends on that value" while `prevValid = 0`. -/
def Obligations.PreviousSampleIsUnreadBeforeTheFirst : Prop :=
  ∀ (s : State) (x : Sample) (d c : Bool), s.prevValid = false →
    step (State.supplied { s with prevD := d, prevC := c } x) = step (s.supplied x)

/-! ### Invariant and runs -/

/-- The reset state meets the invariant of `State.Inv`. -/
def Obligations.ResetMeetsTheInvariant : Prop := State.reset.Inv

/-- Every step keeps the invariant: no fault, the bit counts of 10_state.md R25, the direction agreeing with the value
phase, and the capture indices of the open frame strictly increasing (the spec's own inference in 41_frame_assembler.md
section 4). -/
def Obligations.StepKeepsTheInvariant : Prop :=
  ∀ s t : State, s.Inv → step s = .next t → t.Inv

/-- The spec's own inference in 43_annotation_output.md section 4: every emitted record has `start < end` and lies within
the frame, and the windows of the address bits, the direction and separator-1 follow one another. -/
def Obligations.EmittedWindowsLieInTheFrame : Prop :=
  ∀ (s t : State) (x : Sample), s.Inv → step (s.supplied x) = .next t →
    (∀ r ∈ t.recPort, r.start < r.stop ∧ s.startIdx ≤ r.start ∧ r.stop ≤ s.idx + 1) ∧
    ((t.recPort.take 11).filter (fun r => r.cls = .bit ∨ r.cls = .direction ∨ r.cls = .separator)).Pairwise
      (fun p q => p.stop ≤ q.start)

/-- Every run of samples from reset completes and ends clean (60_exceptions.md sections 1 and 4), and its transactions
follow one another without overlap (41_frame_assembler.md section 3, 20_memory.md section 5). -/
def Obligations.RunsFromResetEndCleanWithDisjointFrames : Prop :=
  ∀ xs : List Sample, ∃ o, runSamples State.reset xs = some o ∧ o.final.cleanEnd ∧ o.final.idx = xs.length ∧
    (∀ tx ∈ o.delivered, tx.startSample < tx.endSample ∧ tx.endSample < xs.length) ∧
    o.delivered.Pairwise (fun p q => p.endSample < q.startSample)

/-- 41_frame_assembler.md section 4: samples of whose steps none delivers a transaction give no record and change no
session register. A frame that has not reached separator-2 when the stream ends is such a run; that it delivers nothing
is the premise here, and what delivers is said by TransactionPortPresentsExactlyTheCommits. -/
def Obligations.TruncatedFrameProducesNothing : Prop :=
  ∀ (xs : List Sample) (s : State) (o : RunOutputs), runSamples s xs = some o → o.delivered = [] →
    o.emitted = [] ∧ o.final.session = s.session

/-- The spec's own derivation in 30_encoding.md section 5 (frame macros), in any session: a frame macro placed after data
1 and clock high commits exactly its own transaction, classified against the session as it stands, and leaves the block
ready for the next macro. A Read frame is four samples shorter than a Write frame (41_frame_assembler.md section 4). -/
def Obligations.FrameMacroCommitsItsTransaction : Prop :=
  ∀ (dir : Direction) (a : Addr) (v : Byte) (s : State),
    s.fault = false → s.phase = .awaitStart → s.prevValid = true → s.prevD = true → s.prevC = true →
    let tx : Transaction := ⟨a, dir, v, s.idx, s.idx + (if dir = .write then 71 else 67)⟩
    ∃ o, runSamples s (frameMacro dir a v) = some o ∧ o.delivered = [tx] ∧
      o.final.session = (classify tx s.session).session ∧
      o.final.fault = false ∧ o.final.phase = .awaitStart ∧ o.final.prevValid = true ∧ o.final.prevD = true ∧
      o.final.prevC = true ∧ o.final.idx = s.idx + (if dir = .write then 73 else 69)

/-- The spec's own derivation in 30_encoding.md section 5 (round trip): every (address, direction, value) encoded as a
waveform and decoded from reset gives the same triple, exactly once. -/
def Obligations.WaveformRoundTrip : Prop :=
  ∀ (dir : Direction) (a : Addr) (v : Byte),
    ∃ o, runSamples State.reset (idle 1 ++ frameMacro dir a v) = some o ∧
      o.delivered = [⟨a, dir, v, 1, if dir = .write then 72 else 68⟩]

/-! ### Text forms -/

/-- R230, 43_annotation_output.md: "0x", then the lower-case digits of the number, no leading zeros, "0x0" for 0. -/
def Obligations.HexWritesTheNumber : Prop :=
  ∀ v : Nat, ∃ ds : List Char, hex v = "0x" ++ String.ofList ds ∧ ds ≠ [] ∧
    (∀ c ∈ ds, c ∈ "0123456789abcdef".toList) ∧ (v ≠ 0 → ds.head? ≠ some '0') ∧ (v = 0 → ds = ['0']) ∧
    hexValue ds = v

/-- R235, R236, 43_annotation_output.md: the flag strings. -/
def Obligations.FlagStrings : Prop :=
  ∀ v : Byte,
    brkFlags v = String.join
      (((["BN", "B3", "B2", "B1", "B0", "I1", "I0", "S"].zipIdx).filter fun p => v.getLsbD (7 - p.2)).map (·.1)) ∧
    (statFlags v).toList =
      [if v.getLsbD 7 then 'Z' else 'z', if v.getLsbD 5 then 'H' else 'h', if v.getLsbD 4 then 'A' else 'a',
       if v.getLsbD 3 then 'M' else 'm', if v.getLsbD 2 then 'I' else 'i']

/-- R205, 42_classifier.md, and R232, R233, 43_annotation_output.md: the name table and the text forms, long and short. -/
def Obligations.TextForms : Prop :=
  ((List.finRange 8).map (fun r => regName (BitVec.ofFin r)) =
    [Config.reg0Name, "BC", "DE", "HL", "IX", "IY", "SP", "PC"]) ∧
  ∀ (start stop : Nat) (cls : RecClass) (b : Bool) (a : Addr) (v : Byte) (r : RegIdx) (acc : Acc) (l : Lane),
    let text : Payload → String × String := fun p => (Record.mk start stop cls p).texts
    let lane : String := match l with | .low => "L" | .high => "H" | .upper => "U"
    text .none = ("Start", "S") ∧
    text (.bit b) = (if b then ("1", "1") else ("0", "0")) ∧
    text (.dir .read) = ("Read", "R") ∧ text (.dir .write) = ("Write", "W") ∧
    text (.addr a) = (hex a.toNat, hex a.toNat) ∧ text (.val v) = (hex v.toNat, hex v.toNat) ∧
    (∀ n : Fin 4, text (.act (.addrReg n l v)) =
      ("ADDR" ++ toString n.val ++ "_" ++ lane ++ " = " ++ hex v.toNat, hex v.toNat)) ∧
    text (.act (.brkCtl v)) = ("BRK_CTL = " ++ brkFlags v, brkFlags v) ∧
    text (.act (.rwRead r)) = ("Read " ++ regName r, "Read " ++ regName r) ∧
    text (.act .setAdl) = ("Set ADL", "Set ADL") ∧ text (.act .resetAdl) = ("Reset ADL", "Reset ADL") ∧
    text (.act (.rwWrite r acc)) = ("Write " ++ regName r ++ " = " ++ hex acc.toNat, hex acc.toNat) ∧
    (∀ k : Fin 5, text (.act (.is k v)) = ("IS" ++ toString k.val ++ " = " ++ hex v.toNat, hex v.toNat)) ∧
    text (.act (.stat v)) = ("STAT = " ++ statFlags v, statFlags v) ∧
    text (.act (.rdReg r l v)) = (regName r ++ "_" ++ lane ++ " = " ++ hex v.toNat, hex v.toNat) ∧
    text (.act (.rdMem v)) = ("RD_MEM = " ++ hex v.toNat, hex v.toNat)
end

