-- ==== Sys2Proof/Laws/Encoding.lean ====
section
/-! SUPPORT. The bits and fields of the packed words (30_encoding.md R71): packing and unpacking undo one another. -/

namespace Sys2Proof

/-- Which bit of which field stands at each place of the frame word. -/
theorem packFrame_getLsbD (a : Addr) (dir sep1 : Bool) (v : Byte) (sep2 : Bool) (i : Nat) :
    (packFrame a dir sep1 v sep2).getLsbD i =
      if i < 1 then (BitVec.ofBool sep2).getLsbD i else if i < 9 then v.getLsbD (i - 1)
      else if i < 10 then (BitVec.ofBool sep1).getLsbD (i - 9) else if i < 11 then (BitVec.ofBool dir).getLsbD (i - 10)
      else a.getLsbD (i - 11) := by
  have h : (packFrame a dir sep1 v sep2).getLsbD i
      = (a ++ BitVec.ofBool dir ++ BitVec.ofBool sep1 ++ v ++ BitVec.ofBool sep2).getLsbD i := rfl
  have h1 : i - 1 - 8 = i - 9 := by omega
  have h2 : i - 9 - 1 = i - 10 := by omega
  have h3 : i - 10 - 1 = i - 11 := by omega
  have e1 : i - 1 < 8 ↔ i < 9 := by omega
  have e2 : i - 9 < 1 ↔ i < 10 := by omega
  have e3 : i - 10 < 1 ↔ i < 11 := by omega
  rw [h]
  simp only [BitVec.getLsbD_append, h1, h2, h3, e1, e2, e3]

@[simp] theorem frameAddr_packFrame (a : Addr) (dir sep1 : Bool) (v : Byte) (sep2 : Bool) :
    frameAddr (packFrame a dir sep1 v sep2) = a := by
  apply BitVec.eq_of_getLsbD_eq
  intro i hi
  simp only [frameAddr, BitVec.getLsbD_extractLsb', packFrame_getLsbD]
  interval_cases i <;> simp

@[simp] theorem frameValue_packFrame (a : Addr) (dir sep1 : Bool) (v : Byte) (sep2 : Bool) :
    frameValue (packFrame a dir sep1 v sep2) = v := by
  apply BitVec.eq_of_getLsbD_eq
  intro i hi
  simp only [frameValue, BitVec.getLsbD_extractLsb', packFrame_getLsbD]
  interval_cases i <;> simp

@[simp] theorem frameDir_packFrame (a : Addr) (dir sep1 : Bool) (v : Byte) (sep2 : Bool) :
    frameDir (packFrame a dir sep1 v sep2) = dir := by
  simp only [frameDir, packFrame_getLsbD]
  simp

@[simp] theorem frameSep1_packFrame (a : Addr) (dir sep1 : Bool) (v : Byte) (sep2 : Bool) :
    frameSep1 (packFrame a dir sep1 v sep2) = sep1 := by
  simp only [frameSep1, packFrame_getLsbD]
  simp

@[simp] theorem frameSep2_packFrame (a : Addr) (dir sep1 : Bool) (v : Byte) (sep2 : Bool) :
    frameSep2 (packFrame a dir sep1 v sep2) = sep2 := by
  simp only [frameSep2, packFrame_getLsbD]
  simp

/-- A frame word is determined by its fields. -/
theorem packFrame_fields (fw : FrameWord) :
    packFrame (frameAddr fw) (frameDir fw) (frameSep1 fw) (frameValue fw) (frameSep2 fw) = fw := by
  apply BitVec.eq_of_getLsbD_eq
  intro i hi
  simp only [packFrame_getLsbD, frameAddr, frameDir, frameSep1, frameValue, frameSep2]
  interval_cases i <;> simp

@[simp] theorem condPrevD_packCond (p q d c : Bool) : condPrevD (packCond p q d c) = p := by
  revert p q d c; decide

@[simp] theorem condPrevC_packCond (p q d c : Bool) : condPrevC (packCond p q d c) = q := by
  revert p q d c; decide

@[simp] theorem condD_packCond (p q d c : Bool) : condD (packCond p q d c) = d := by
  revert p q d c; decide

@[simp] theorem condC_packCond (p q d c : Bool) : condC (packCond p q d c) = c := by
  revert p q d c; decide

/-- The mask of the rows keyed by address and direction keeps exactly those two fields. -/
theorem packFrame_and_keyMask (a : Addr) (dir sep1 : Bool) (v : Byte) (sep2 : Bool) :
    packFrame a dir sep1 v sep2 &&& 0x3fc00#18 = packFrame a dir false 0#8 false := by
  apply BitVec.eq_of_getLsbD_eq
  intro i hi
  simp only [BitVec.getLsbD_and, packFrame_getLsbD]
  interval_cases i <;> simp

/-- The mask of the unmatched rows keeps exactly the direction. -/
theorem packFrame_and_dirMask (a : Addr) (dir sep1 : Bool) (v : Byte) (sep2 : Bool) :
    packFrame a dir sep1 v sep2 &&& 0x00400#18 = packFrame 0#7 dir false 0#8 false := by
  apply BitVec.eq_of_getLsbD_eq
  intro i hi
  simp only [BitVec.getLsbD_and, packFrame_getLsbD]
  interval_cases i <;> simp

end Sys2Proof
end

