-- ==== Sys2Proof/Laws/State.lean ====
section
/-! SUPPORT. One lemma per field per update of State, so that no proof unfolds a record update. -/

namespace Sys2Proof.Machine

/-! ### `quiet` -/

@[simp] theorem State.quiet_idx (s : State) : s.quiet.idx = s.idx := rfl
@[simp] theorem State.quiet_prevValid (s : State) : s.quiet.prevValid = s.prevValid := rfl
@[simp] theorem State.quiet_prevD (s : State) : s.quiet.prevD = s.prevD := rfl
@[simp] theorem State.quiet_prevC (s : State) : s.quiet.prevC = s.prevC := rfl
@[simp] theorem State.quiet_phase (s : State) : s.quiet.phase = s.phase := rfl
@[simp] theorem State.quiet_bitCnt (s : State) : s.quiet.bitCnt = s.bitCnt := rfl
@[simp] theorem State.quiet_addr (s : State) : s.quiet.addr = s.addr := rfl
@[simp] theorem State.quiet_dir (s : State) : s.quiet.dir = s.dir := rfl
@[simp] theorem State.quiet_sep1 (s : State) : s.quiet.sep1 = s.sep1 := rfl
@[simp] theorem State.quiet_sep2 (s : State) : s.quiet.sep2 = s.sep2 := rfl
@[simp] theorem State.quiet_value (s : State) : s.quiet.value = s.value := rfl
@[simp] theorem State.quiet_startIdx (s : State) : s.quiet.startIdx = s.startIdx := rfl
@[simp] theorem State.quiet_aIdx (s : State) : s.quiet.aIdx = s.aIdx := rfl
@[simp] theorem State.quiet_dIdx (s : State) : s.quiet.dIdx = s.dIdx := rfl
@[simp] theorem State.quiet_s1Idx (s : State) : s.quiet.s1Idx = s.s1Idx := rfl
@[simp] theorem State.quiet_vIdx (s : State) : s.quiet.vIdx = s.vIdx := rfl
@[simp] theorem State.quiet_session (s : State) : s.quiet.session = s.session := rfl
@[simp] theorem State.quiet_sampleRate (s : State) : s.quiet.sampleRate = s.sampleRate := rfl
@[simp] theorem State.quiet_fault (s : State) : s.quiet.fault = s.fault := rfl
@[simp] theorem State.quiet_input (s : State) : s.quiet.input = s.input := rfl
@[simp] theorem State.quiet_txPort (s : State) : s.quiet.txPort = none := rfl
@[simp] theorem State.quiet_recPort (s : State) : s.quiet.recPort = [] := rfl

/-! ### `advance` -/

@[simp] theorem State.advance_idx (s : State) (x : Sample) : (s.advance x).idx = s.idx + 1 := rfl
@[simp] theorem State.advance_prevValid (s : State) (x : Sample) : (s.advance x).prevValid = true := rfl
@[simp] theorem State.advance_prevD (s : State) (x : Sample) : (s.advance x).prevD = x.d := rfl
@[simp] theorem State.advance_prevC (s : State) (x : Sample) : (s.advance x).prevC = x.c := rfl
@[simp] theorem State.advance_phase (s : State) (x : Sample) : (s.advance x).phase = s.phase := rfl
@[simp] theorem State.advance_bitCnt (s : State) (x : Sample) : (s.advance x).bitCnt = s.bitCnt := rfl
@[simp] theorem State.advance_addr (s : State) (x : Sample) : (s.advance x).addr = s.addr := rfl
@[simp] theorem State.advance_dir (s : State) (x : Sample) : (s.advance x).dir = s.dir := rfl
@[simp] theorem State.advance_sep1 (s : State) (x : Sample) : (s.advance x).sep1 = s.sep1 := rfl
@[simp] theorem State.advance_sep2 (s : State) (x : Sample) : (s.advance x).sep2 = s.sep2 := rfl
@[simp] theorem State.advance_value (s : State) (x : Sample) : (s.advance x).value = s.value := rfl
@[simp] theorem State.advance_startIdx (s : State) (x : Sample) : (s.advance x).startIdx = s.startIdx := rfl
@[simp] theorem State.advance_aIdx (s : State) (x : Sample) : (s.advance x).aIdx = s.aIdx := rfl
@[simp] theorem State.advance_dIdx (s : State) (x : Sample) : (s.advance x).dIdx = s.dIdx := rfl
@[simp] theorem State.advance_s1Idx (s : State) (x : Sample) : (s.advance x).s1Idx = s.s1Idx := rfl
@[simp] theorem State.advance_vIdx (s : State) (x : Sample) : (s.advance x).vIdx = s.vIdx := rfl
@[simp] theorem State.advance_session (s : State) (x : Sample) : (s.advance x).session = s.session := rfl
@[simp] theorem State.advance_sampleRate (s : State) (x : Sample) : (s.advance x).sampleRate = s.sampleRate := rfl
@[simp] theorem State.advance_fault (s : State) (x : Sample) : (s.advance x).fault = s.fault := rfl
@[simp] theorem State.advance_input (s : State) (x : Sample) : (s.advance x).input = s.input := rfl
@[simp] theorem State.advance_txPort (s : State) (x : Sample) : (s.advance x).txPort = s.txPort := rfl
@[simp] theorem State.advance_recPort (s : State) (x : Sample) : (s.advance x).recPort = s.recPort := rfl

/-! ### `raiseFault` -/

@[simp] theorem State.raiseFault_idx (s : State) : s.raiseFault.idx = s.idx := rfl
@[simp] theorem State.raiseFault_prevValid (s : State) : s.raiseFault.prevValid = s.prevValid := rfl
@[simp] theorem State.raiseFault_prevD (s : State) : s.raiseFault.prevD = s.prevD := rfl
@[simp] theorem State.raiseFault_prevC (s : State) : s.raiseFault.prevC = s.prevC := rfl
@[simp] theorem State.raiseFault_phase (s : State) : s.raiseFault.phase = s.phase := rfl
@[simp] theorem State.raiseFault_bitCnt (s : State) : s.raiseFault.bitCnt = s.bitCnt := rfl
@[simp] theorem State.raiseFault_addr (s : State) : s.raiseFault.addr = s.addr := rfl
@[simp] theorem State.raiseFault_dir (s : State) : s.raiseFault.dir = s.dir := rfl
@[simp] theorem State.raiseFault_sep1 (s : State) : s.raiseFault.sep1 = s.sep1 := rfl
@[simp] theorem State.raiseFault_sep2 (s : State) : s.raiseFault.sep2 = s.sep2 := rfl
@[simp] theorem State.raiseFault_value (s : State) : s.raiseFault.value = s.value := rfl
@[simp] theorem State.raiseFault_startIdx (s : State) : s.raiseFault.startIdx = s.startIdx := rfl
@[simp] theorem State.raiseFault_aIdx (s : State) : s.raiseFault.aIdx = s.aIdx := rfl
@[simp] theorem State.raiseFault_dIdx (s : State) : s.raiseFault.dIdx = s.dIdx := rfl
@[simp] theorem State.raiseFault_s1Idx (s : State) : s.raiseFault.s1Idx = s.s1Idx := rfl
@[simp] theorem State.raiseFault_vIdx (s : State) : s.raiseFault.vIdx = s.vIdx := rfl
@[simp] theorem State.raiseFault_session (s : State) : s.raiseFault.session = s.session := rfl
@[simp] theorem State.raiseFault_sampleRate (s : State) : s.raiseFault.sampleRate = s.sampleRate := rfl
@[simp] theorem State.raiseFault_fault (s : State) : s.raiseFault.fault = true := rfl
@[simp] theorem State.raiseFault_input (s : State) : s.raiseFault.input = s.input := rfl
@[simp] theorem State.raiseFault_txPort (s : State) : s.raiseFault.txPort = s.txPort := rfl
@[simp] theorem State.raiseFault_recPort (s : State) : s.raiseFault.recPort = s.recPort := rfl

/-! ### `takeAddrBit` -/

@[simp] theorem State.takeAddrBit_idx (s : State) (d : Bool) : (s.takeAddrBit d).idx = s.idx := rfl
@[simp] theorem State.takeAddrBit_prevValid (s : State) (d : Bool) : (s.takeAddrBit d).prevValid = s.prevValid := rfl
@[simp] theorem State.takeAddrBit_prevD (s : State) (d : Bool) : (s.takeAddrBit d).prevD = s.prevD := rfl
@[simp] theorem State.takeAddrBit_prevC (s : State) (d : Bool) : (s.takeAddrBit d).prevC = s.prevC := rfl
@[simp] theorem State.takeAddrBit_phase (s : State) (d : Bool) : (s.takeAddrBit d).phase = s.phase := rfl
@[simp] theorem State.takeAddrBit_bitCnt (s : State) (d : Bool) : (s.takeAddrBit d).bitCnt = s.bitCnt := rfl
@[simp] theorem State.takeAddrBit_addr (s : State) (d : Bool) : (s.takeAddrBit d).addr = shiftIn s.addr d := rfl
@[simp] theorem State.takeAddrBit_dir (s : State) (d : Bool) : (s.takeAddrBit d).dir = s.dir := rfl
@[simp] theorem State.takeAddrBit_sep1 (s : State) (d : Bool) : (s.takeAddrBit d).sep1 = s.sep1 := rfl
@[simp] theorem State.takeAddrBit_sep2 (s : State) (d : Bool) : (s.takeAddrBit d).sep2 = s.sep2 := rfl
@[simp] theorem State.takeAddrBit_value (s : State) (d : Bool) : (s.takeAddrBit d).value = s.value := rfl
@[simp] theorem State.takeAddrBit_startIdx (s : State) (d : Bool) : (s.takeAddrBit d).startIdx = s.startIdx := rfl
@[simp] theorem State.takeAddrBit_aIdx (s : State) (d : Bool) : (s.takeAddrBit d).aIdx = putIdx s.aIdx s.bitCnt.toNat s.idx := rfl
@[simp] theorem State.takeAddrBit_dIdx (s : State) (d : Bool) : (s.takeAddrBit d).dIdx = s.dIdx := rfl
@[simp] theorem State.takeAddrBit_s1Idx (s : State) (d : Bool) : (s.takeAddrBit d).s1Idx = s.s1Idx := rfl
@[simp] theorem State.takeAddrBit_vIdx (s : State) (d : Bool) : (s.takeAddrBit d).vIdx = s.vIdx := rfl
@[simp] theorem State.takeAddrBit_session (s : State) (d : Bool) : (s.takeAddrBit d).session = s.session := rfl
@[simp] theorem State.takeAddrBit_sampleRate (s : State) (d : Bool) : (s.takeAddrBit d).sampleRate = s.sampleRate := rfl
@[simp] theorem State.takeAddrBit_fault (s : State) (d : Bool) : (s.takeAddrBit d).fault = s.fault := rfl
@[simp] theorem State.takeAddrBit_input (s : State) (d : Bool) : (s.takeAddrBit d).input = s.input := rfl
@[simp] theorem State.takeAddrBit_txPort (s : State) (d : Bool) : (s.takeAddrBit d).txPort = s.txPort := rfl
@[simp] theorem State.takeAddrBit_recPort (s : State) (d : Bool) : (s.takeAddrBit d).recPort = s.recPort := rfl

/-! ### `takeValueBit` -/

@[simp] theorem State.takeValueBit_idx (s : State) (d : Bool) : (s.takeValueBit d).idx = s.idx := rfl
@[simp] theorem State.takeValueBit_prevValid (s : State) (d : Bool) : (s.takeValueBit d).prevValid = s.prevValid := rfl
@[simp] theorem State.takeValueBit_prevD (s : State) (d : Bool) : (s.takeValueBit d).prevD = s.prevD := rfl
@[simp] theorem State.takeValueBit_prevC (s : State) (d : Bool) : (s.takeValueBit d).prevC = s.prevC := rfl
@[simp] theorem State.takeValueBit_phase (s : State) (d : Bool) : (s.takeValueBit d).phase = s.phase := rfl
@[simp] theorem State.takeValueBit_bitCnt (s : State) (d : Bool) : (s.takeValueBit d).bitCnt = s.bitCnt := rfl
@[simp] theorem State.takeValueBit_addr (s : State) (d : Bool) : (s.takeValueBit d).addr = s.addr := rfl
@[simp] theorem State.takeValueBit_dir (s : State) (d : Bool) : (s.takeValueBit d).dir = s.dir := rfl
@[simp] theorem State.takeValueBit_sep1 (s : State) (d : Bool) : (s.takeValueBit d).sep1 = s.sep1 := rfl
@[simp] theorem State.takeValueBit_sep2 (s : State) (d : Bool) : (s.takeValueBit d).sep2 = s.sep2 := rfl
@[simp] theorem State.takeValueBit_value (s : State) (d : Bool) : (s.takeValueBit d).value = shiftIn s.value d := rfl
@[simp] theorem State.takeValueBit_startIdx (s : State) (d : Bool) : (s.takeValueBit d).startIdx = s.startIdx := rfl
@[simp] theorem State.takeValueBit_aIdx (s : State) (d : Bool) : (s.takeValueBit d).aIdx = s.aIdx := rfl
@[simp] theorem State.takeValueBit_dIdx (s : State) (d : Bool) : (s.takeValueBit d).dIdx = s.dIdx := rfl
@[simp] theorem State.takeValueBit_s1Idx (s : State) (d : Bool) : (s.takeValueBit d).s1Idx = s.s1Idx := rfl
@[simp] theorem State.takeValueBit_vIdx (s : State) (d : Bool) : (s.takeValueBit d).vIdx = putIdx s.vIdx s.bitCnt.toNat s.idx := rfl
@[simp] theorem State.takeValueBit_session (s : State) (d : Bool) : (s.takeValueBit d).session = s.session := rfl
@[simp] theorem State.takeValueBit_sampleRate (s : State) (d : Bool) : (s.takeValueBit d).sampleRate = s.sampleRate := rfl
@[simp] theorem State.takeValueBit_fault (s : State) (d : Bool) : (s.takeValueBit d).fault = s.fault := rfl
@[simp] theorem State.takeValueBit_input (s : State) (d : Bool) : (s.takeValueBit d).input = s.input := rfl
@[simp] theorem State.takeValueBit_txPort (s : State) (d : Bool) : (s.takeValueBit d).txPort = s.txPort := rfl
@[simp] theorem State.takeValueBit_recPort (s : State) (d : Bool) : (s.takeValueBit d).recPort = s.recPort := rfl

/-! ### `countBit` -/

@[simp] theorem State.countBit_idx (s : State) (last : BitVec 3) (more done : Phase) : (s.countBit last more done).idx = s.idx := by
  unfold State.countBit; split <;> rfl
@[simp] theorem State.countBit_prevValid (s : State) (last : BitVec 3) (more done : Phase) : (s.countBit last more done).prevValid = s.prevValid := by
  unfold State.countBit; split <;> rfl
@[simp] theorem State.countBit_prevD (s : State) (last : BitVec 3) (more done : Phase) : (s.countBit last more done).prevD = s.prevD := by
  unfold State.countBit; split <;> rfl
@[simp] theorem State.countBit_prevC (s : State) (last : BitVec 3) (more done : Phase) : (s.countBit last more done).prevC = s.prevC := by
  unfold State.countBit; split <;> rfl
@[simp] theorem State.countBit_phase (s : State) (last : BitVec 3) (more done : Phase) : (s.countBit last more done).phase = (if s.bitCnt = last then done else more) := by
  unfold State.countBit; split <;> rfl
@[simp] theorem State.countBit_bitCnt (s : State) (last : BitVec 3) (more done : Phase) : (s.countBit last more done).bitCnt = (if s.bitCnt = last then 0#3 else s.bitCnt + 1#3) := by
  unfold State.countBit; split <;> rfl
@[simp] theorem State.countBit_addr (s : State) (last : BitVec 3) (more done : Phase) : (s.countBit last more done).addr = s.addr := by
  unfold State.countBit; split <;> rfl
@[simp] theorem State.countBit_dir (s : State) (last : BitVec 3) (more done : Phase) : (s.countBit last more done).dir = s.dir := by
  unfold State.countBit; split <;> rfl
@[simp] theorem State.countBit_sep1 (s : State) (last : BitVec 3) (more done : Phase) : (s.countBit last more done).sep1 = s.sep1 := by
  unfold State.countBit; split <;> rfl
@[simp] theorem State.countBit_sep2 (s : State) (last : BitVec 3) (more done : Phase) : (s.countBit last more done).sep2 = s.sep2 := by
  unfold State.countBit; split <;> rfl
@[simp] theorem State.countBit_value (s : State) (last : BitVec 3) (more done : Phase) : (s.countBit last more done).value = s.value := by
  unfold State.countBit; split <;> rfl
@[simp] theorem State.countBit_startIdx (s : State) (last : BitVec 3) (more done : Phase) : (s.countBit last more done).startIdx = s.startIdx := by
  unfold State.countBit; split <;> rfl
@[simp] theorem State.countBit_aIdx (s : State) (last : BitVec 3) (more done : Phase) : (s.countBit last more done).aIdx = s.aIdx := by
  unfold State.countBit; split <;> rfl
@[simp] theorem State.countBit_dIdx (s : State) (last : BitVec 3) (more done : Phase) : (s.countBit last more done).dIdx = s.dIdx := by
  unfold State.countBit; split <;> rfl
@[simp] theorem State.countBit_s1Idx (s : State) (last : BitVec 3) (more done : Phase) : (s.countBit last more done).s1Idx = s.s1Idx := by
  unfold State.countBit; split <;> rfl
@[simp] theorem State.countBit_vIdx (s : State) (last : BitVec 3) (more done : Phase) : (s.countBit last more done).vIdx = s.vIdx := by
  unfold State.countBit; split <;> rfl
@[simp] theorem State.countBit_session (s : State) (last : BitVec 3) (more done : Phase) : (s.countBit last more done).session = s.session := by
  unfold State.countBit; split <;> rfl
@[simp] theorem State.countBit_sampleRate (s : State) (last : BitVec 3) (more done : Phase) : (s.countBit last more done).sampleRate = s.sampleRate := by
  unfold State.countBit; split <;> rfl
@[simp] theorem State.countBit_fault (s : State) (last : BitVec 3) (more done : Phase) : (s.countBit last more done).fault = s.fault := by
  unfold State.countBit; split <;> rfl
@[simp] theorem State.countBit_input (s : State) (last : BitVec 3) (more done : Phase) : (s.countBit last more done).input = s.input := by
  unfold State.countBit; split <;> rfl
@[simp] theorem State.countBit_txPort (s : State) (last : BitVec 3) (more done : Phase) : (s.countBit last more done).txPort = s.txPort := by
  unfold State.countBit; split <;> rfl
@[simp] theorem State.countBit_recPort (s : State) (last : BitVec 3) (more done : Phase) : (s.countBit last more done).recPort = s.recPort := by
  unfold State.countBit; split <;> rfl

/-! ### `commit` -/

@[simp] theorem State.commit_idx (s : State) (f : Frame) (k : Classified) : (s.commit f k).idx = s.idx := rfl
@[simp] theorem State.commit_prevValid (s : State) (f : Frame) (k : Classified) : (s.commit f k).prevValid = s.prevValid := rfl
@[simp] theorem State.commit_prevD (s : State) (f : Frame) (k : Classified) : (s.commit f k).prevD = s.prevD := rfl
@[simp] theorem State.commit_prevC (s : State) (f : Frame) (k : Classified) : (s.commit f k).prevC = s.prevC := rfl
@[simp] theorem State.commit_phase (s : State) (f : Frame) (k : Classified) : (s.commit f k).phase = .awaitStart := rfl
@[simp] theorem State.commit_bitCnt (s : State) (f : Frame) (k : Classified) : (s.commit f k).bitCnt = 0#3 := rfl
@[simp] theorem State.commit_addr (s : State) (f : Frame) (k : Classified) : (s.commit f k).addr = s.addr := rfl
@[simp] theorem State.commit_dir (s : State) (f : Frame) (k : Classified) : (s.commit f k).dir = s.dir := rfl
@[simp] theorem State.commit_sep1 (s : State) (f : Frame) (k : Classified) : (s.commit f k).sep1 = s.sep1 := rfl
@[simp] theorem State.commit_sep2 (s : State) (f : Frame) (k : Classified) : (s.commit f k).sep2 = f.sep2 := rfl
@[simp] theorem State.commit_value (s : State) (f : Frame) (k : Classified) : (s.commit f k).value = s.value := rfl
@[simp] theorem State.commit_startIdx (s : State) (f : Frame) (k : Classified) : (s.commit f k).startIdx = s.startIdx := rfl
@[simp] theorem State.commit_aIdx (s : State) (f : Frame) (k : Classified) : (s.commit f k).aIdx = s.aIdx := rfl
@[simp] theorem State.commit_dIdx (s : State) (f : Frame) (k : Classified) : (s.commit f k).dIdx = s.dIdx := rfl
@[simp] theorem State.commit_s1Idx (s : State) (f : Frame) (k : Classified) : (s.commit f k).s1Idx = s.s1Idx := rfl
@[simp] theorem State.commit_vIdx (s : State) (f : Frame) (k : Classified) : (s.commit f k).vIdx = s.vIdx := rfl
@[simp] theorem State.commit_session (s : State) (f : Frame) (k : Classified) : (s.commit f k).session = k.session := rfl
@[simp] theorem State.commit_sampleRate (s : State) (f : Frame) (k : Classified) : (s.commit f k).sampleRate = s.sampleRate := rfl
@[simp] theorem State.commit_fault (s : State) (f : Frame) (k : Classified) : (s.commit f k).fault = s.fault := rfl
@[simp] theorem State.commit_input (s : State) (f : Frame) (k : Classified) : (s.commit f k).input = s.input := rfl
@[simp] theorem State.commit_txPort (s : State) (f : Frame) (k : Classified) : (s.commit f k).txPort = some (s.transaction f) := rfl
@[simp] theorem State.commit_recPort (s : State) (f : Frame) (k : Classified) : (s.commit f k).recPort = s.frameRecords f k.act := rfl

/-! ### `restart` -/

@[simp] theorem State.restart_idx (s : State) : s.restart.idx = State.reset.idx := rfl
@[simp] theorem State.restart_prevValid (s : State) : s.restart.prevValid = State.reset.prevValid := rfl
@[simp] theorem State.restart_prevD (s : State) : s.restart.prevD = State.reset.prevD := rfl
@[simp] theorem State.restart_prevC (s : State) : s.restart.prevC = State.reset.prevC := rfl
@[simp] theorem State.restart_phase (s : State) : s.restart.phase = State.reset.phase := rfl
@[simp] theorem State.restart_bitCnt (s : State) : s.restart.bitCnt = State.reset.bitCnt := rfl
@[simp] theorem State.restart_addr (s : State) : s.restart.addr = State.reset.addr := rfl
@[simp] theorem State.restart_dir (s : State) : s.restart.dir = State.reset.dir := rfl
@[simp] theorem State.restart_sep1 (s : State) : s.restart.sep1 = State.reset.sep1 := rfl
@[simp] theorem State.restart_sep2 (s : State) : s.restart.sep2 = State.reset.sep2 := rfl
@[simp] theorem State.restart_value (s : State) : s.restart.value = State.reset.value := rfl
@[simp] theorem State.restart_startIdx (s : State) : s.restart.startIdx = State.reset.startIdx := rfl
@[simp] theorem State.restart_aIdx (s : State) : s.restart.aIdx = State.reset.aIdx := rfl
@[simp] theorem State.restart_dIdx (s : State) : s.restart.dIdx = State.reset.dIdx := rfl
@[simp] theorem State.restart_s1Idx (s : State) : s.restart.s1Idx = State.reset.s1Idx := rfl
@[simp] theorem State.restart_vIdx (s : State) : s.restart.vIdx = State.reset.vIdx := rfl
@[simp] theorem State.restart_session (s : State) : s.restart.session = State.reset.session := rfl
@[simp] theorem State.restart_sampleRate (s : State) : s.restart.sampleRate = State.reset.sampleRate := rfl
@[simp] theorem State.restart_fault (s : State) : s.restart.fault = State.reset.fault := rfl
@[simp] theorem State.restart_input (s : State) : s.restart.input = s.input := rfl
@[simp] theorem State.restart_txPort (s : State) : s.restart.txPort = State.reset.txPort := rfl
@[simp] theorem State.restart_recPort (s : State) : s.restart.recPort = State.reset.recPort := rfl

/-! ### `supplied` -/

@[simp] theorem State.supplied_idx (s : State) (x : Sample) : (s.supplied x).idx = s.idx := rfl
@[simp] theorem State.supplied_prevValid (s : State) (x : Sample) : (s.supplied x).prevValid = s.prevValid := rfl
@[simp] theorem State.supplied_prevD (s : State) (x : Sample) : (s.supplied x).prevD = s.prevD := rfl
@[simp] theorem State.supplied_prevC (s : State) (x : Sample) : (s.supplied x).prevC = s.prevC := rfl
@[simp] theorem State.supplied_phase (s : State) (x : Sample) : (s.supplied x).phase = s.phase := rfl
@[simp] theorem State.supplied_bitCnt (s : State) (x : Sample) : (s.supplied x).bitCnt = s.bitCnt := rfl
@[simp] theorem State.supplied_addr (s : State) (x : Sample) : (s.supplied x).addr = s.addr := rfl
@[simp] theorem State.supplied_dir (s : State) (x : Sample) : (s.supplied x).dir = s.dir := rfl
@[simp] theorem State.supplied_sep1 (s : State) (x : Sample) : (s.supplied x).sep1 = s.sep1 := rfl
@[simp] theorem State.supplied_sep2 (s : State) (x : Sample) : (s.supplied x).sep2 = s.sep2 := rfl
@[simp] theorem State.supplied_value (s : State) (x : Sample) : (s.supplied x).value = s.value := rfl
@[simp] theorem State.supplied_startIdx (s : State) (x : Sample) : (s.supplied x).startIdx = s.startIdx := rfl
@[simp] theorem State.supplied_aIdx (s : State) (x : Sample) : (s.supplied x).aIdx = s.aIdx := rfl
@[simp] theorem State.supplied_dIdx (s : State) (x : Sample) : (s.supplied x).dIdx = s.dIdx := rfl
@[simp] theorem State.supplied_s1Idx (s : State) (x : Sample) : (s.supplied x).s1Idx = s.s1Idx := rfl
@[simp] theorem State.supplied_vIdx (s : State) (x : Sample) : (s.supplied x).vIdx = s.vIdx := rfl
@[simp] theorem State.supplied_session (s : State) (x : Sample) : (s.supplied x).session = s.session := rfl
@[simp] theorem State.supplied_sampleRate (s : State) (x : Sample) : (s.supplied x).sampleRate = s.sampleRate := rfl
@[simp] theorem State.supplied_fault (s : State) (x : Sample) : (s.supplied x).fault = s.fault := rfl
@[simp] theorem State.supplied_input (s : State) (x : Sample) : (s.supplied x).input = .sample x :: s.input := rfl
@[simp] theorem State.supplied_txPort (s : State) (x : Sample) : (s.supplied x).txPort = s.txPort := rfl
@[simp] theorem State.supplied_recPort (s : State) (x : Sample) : (s.supplied x).recPort = s.recPort := rfl

/-! ### The session registers -/

@[simp] theorem Session.writeAcc_acc (ses : Session) (l : Lane) (v : Byte) : (ses.writeAcc l v).acc = insertLane l ses.acc v := rfl
@[simp] theorem Session.writeAcc_sel (ses : Session) (l : Lane) (v : Byte) : (ses.writeAcc l v).sel = ses.sel := rfl
@[simp] theorem Session.writeAcc_shadow (ses : Session) (l : Lane) (v : Byte) : (ses.writeAcc l v).shadow = ses.shadow := rfl
@[simp] theorem Session.writeAcc_shadowValid (ses : Session) (l : Lane) (v : Byte) : (ses.writeAcc l v).shadowValid = ses.shadowValid := rfl
@[simp] theorem Session.select_acc (ses : Session) (r : RegIdx) : (ses.select r).acc = ses.acc := rfl
@[simp] theorem Session.select_sel (ses : Session) (r : RegIdx) : (ses.select r).sel = r := rfl
@[simp] theorem Session.select_shadow (ses : Session) (r : RegIdx) : (ses.select r).shadow = ses.shadow := rfl
@[simp] theorem Session.select_shadowValid (ses : Session) (r : RegIdx) : (ses.select r).shadowValid = ses.shadowValid := rfl
@[simp] theorem Session.observe_acc (ses : Session) (l : Lane) (v : Byte) : (ses.observe l v).acc = ses.acc := rfl
@[simp] theorem Session.observe_sel (ses : Session) (l : Lane) (v : Byte) : (ses.observe l v).sel = ses.sel := rfl

@[simp] theorem State.prev_d (s : State) : s.prev.d = s.prevD := rfl
@[simp] theorem State.prev_c (s : State) : s.prev.c = s.prevC := rfl
@[simp] theorem Sample.on_data (x : Sample) : x.on .data = x.d := rfl
@[simp] theorem Sample.on_clock (x : Sample) : x.on .clock = x.c := rfl

end Sys2Proof.Machine
end

