-- ==== Sys2Proof/Laws/Ops.lean ====
section
/-! SUPPORT. One lemma per shared operation that says what it does, for proofs to cite in place of its definition. -/

namespace Sys2Proof.Machine

/-! ### Outcomes -/

@[simp] theorem onNext_next (s : State) (f : State → State) : onNext (.next s) f = .next (f s) := rfl
@[simp] theorem onNext_refused (r : Refusal) (f : State → State) : onNext (.refused r) f = .refused r := rfl

/-- An update applied to an outcome answers a next state only where the outcome did. -/
theorem onNext_eq_next {o : Host.Outcome State Fault Refusal} {f : State → State} {t : State} :
    onNext o f = .next t ↔ ∃ s, o = .next s ∧ t = f s := by
  cases o <;> simp [onNext, eq_comm]

/-! ### Shifting and lanes -/

/-- R26, R29 as arithmetic: a shift in is `2 * v + b` at the register's width. -/
theorem shiftIn_toNat {w : Nat} (v : BitVec (w + 1)) (b : Bool) :
    (shiftIn v b).toNat = (2 * v.toNat + b.toNat) % 2 ^ (w + 1) := by
  have hb : b.toNat < 2 ^ 1 := by cases b <;> decide
  have hw : b.toNat % 2 ^ (w + 1) = b.toNat :=
    Nat.mod_eq_of_lt (lt_of_lt_of_le hb (Nat.pow_le_pow_right (by decide) (by omega)))
  have e : (2 * v.toNat) % 2 ^ (w + 1) = 2 * (v.toNat % 2 ^ w) := by
    rw [Nat.pow_succ, Nat.mul_comm (2 ^ w), Nat.mul_mod_mul_left]
  have e' : (2 * v.toNat + b.toNat) % 2 ^ (w + 1) = 2 * (v.toNat % 2 ^ w) + b.toNat := by
    have hlt := Nat.mod_lt v.toNat (Nat.two_pow_pos w)
    have hp : 2 ^ (w + 1) = 2 * 2 ^ w := by rw [Nat.pow_succ, Nat.mul_comm]
    rw [Nat.add_mod, e, hw, Nat.mod_eq_of_lt]
    omega
  have o := Nat.two_pow_add_eq_or_of_lt hb (v.toNat % 2 ^ w)
  simp only [shiftIn, BitVec.toNat_or, BitVec.toNat_shiftLeft, BitVec.toNat_setWidth, BitVec.toNat_ofBool,
    Nat.shiftLeft_eq, hw, e']
  rw [Nat.mul_comm v.toNat, Nat.pow_one, e]
  simpa using o.symm

/-- R185: lane L is bits 7:0. -/
theorem insertLane_low_getLsbD (a : Acc) (v : Byte) {i : Nat} (hi : i < 24) :
    (insertLane .low a v).getLsbD i = if i < 8 then v.getLsbD i else a.getLsbD i := by
  interval_cases i <;> simp [insertLane]

/-- R186: lane H is bits 15:8. -/
theorem insertLane_high_getLsbD (a : Acc) (v : Byte) {i : Nat} (hi : i < 24) :
    (insertLane .high a v).getLsbD i = if 8 ≤ i ∧ i < 16 then v.getLsbD (i - 8) else a.getLsbD i := by
  interval_cases i <;> simp [insertLane]

/-- R187: lane U is bits 23:16. -/
theorem insertLane_upper_getLsbD (a : Acc) (v : Byte) {i : Nat} (hi : i < 24) :
    (insertLane .upper a v).getLsbD i = if 16 ≤ i then v.getLsbD (i - 16) else a.getLsbD i := by
  interval_cases i <;> simp [insertLane]

/-- Reading one lane after replacing one lane. -/
theorem Lanes.at_put {α : Type} (x : Lanes α) (l m : Lane) (v : α) :
    (x.put l v).at m = if m = l then v else x.at m := by
  cases l <;> cases m <;> rfl

/-- Reading the shadow file after an observation (R200 to R202). -/
theorem Session.shadowAt_observe (ses : Session) (l : Lane) (v : Byte) (r : RegIdx) (m : Lane) :
    (ses.observe l v).shadowAt r m = if r = ses.sel ∧ m = l then v else ses.shadowAt r m := by
  by_cases h : r = ses.sel
  · subst h; simp [Session.shadowAt, Session.observe, Lanes.at_put]
  · have h' : ses.sel.toNat ≠ r.toNat := fun e => h (BitVec.eq_of_toNat_eq e.symm)
    simp [Session.shadowAt, Session.observe, h, Vector.getElem_set_ne, h']

/-- Reading the valid bits after an observation (R200 to R202). -/
theorem Session.validAt_observe (ses : Session) (l : Lane) (v : Byte) (r : RegIdx) (m : Lane) :
    (ses.observe l v).validAt r m = if r = ses.sel ∧ m = l then true else ses.validAt r m := by
  by_cases h : r = ses.sel
  · subst h; simp [Session.validAt, Session.observe, Lanes.at_put]
  · have h' : ses.sel.toNat ≠ r.toNat := fun e => h (BitVec.eq_of_toNat_eq e.symm)
    simp [Session.validAt, Session.observe, h, Vector.getElem_set_ne, h']

/-! ### Capture indices -/

/-- Reading a capture index after one is written. -/
theorem putIdx_get {n : Nat} (v : Vector Nat n) (k i : Nat) (j : Fin n) :
    (putIdx v k i)[j] = if j.val = k then i else v[j] := by
  simp [putIdx, Vector.getElem_setIfInBounds, eq_comm]

/-! ### Records -/

@[simp] theorem State.actionRecords_none (s : State) : s.actionRecords none = [] := rfl
@[simp] theorem State.actionRecords_some (s : State) (a : Action) :
    s.actionRecords (some a) = [⟨s.startIdx, s.idx, .action, .act a⟩] := rfl

/-- The frame's records but for the last, the ACTION record. -/
theorem State.frameRecords_eq (s : State) (f : Frame) (act : Option Action) :
    s.frameRecords f act = s.frameRecords f none ++ s.actionRecords act := by
  simp [State.frameRecords]

/-- R221: a frame has 21 records and its action's. -/
theorem State.frameRecords_length (s : State) (f : Frame) (act : Option Action) :
    (s.frameRecords f act).length = 21 + (s.actionRecords act).length := by
  simp [State.frameRecords]; omega

end Sys2Proof.Machine
end

