-- ==== Sys2Proof/Laws/PerInstr.lean ====
section
/-! SUPPORT. Per operation: the encoded word fits the operation's row of spec/opcode_table.json (R71). -/

namespace Sys2Proof.Laws.FitsRow

/-- The encoder writes every fixed bit of the operation's row: the mask and match of a classifier row, the pattern of a
condition row. -/
def Statement (i : Instr) : Prop :=
  (∀ r fw, i.frameRow? = some r → encode i = .frame fw → r.fits fw = true) ∧
  (∀ p prevValid w, encode i = .cond p prevValid w → (condRow p).fits prevValid w = true)

/-- A row keyed by address and direction. -/
theorem of_key {i : Instr} {a : Addr} {dir sep1 : Bool} {v : Byte} {sep2 : Bool} {b : FrameWord}
    (hr : i.frameRow? = some ⟨0x3fc00#18, b⟩) (he : encode i = .frame (packFrame a dir sep1 v sep2))
    (hb : packFrame a dir false 0#8 false = b) : Statement i := by
  refine ⟨fun r fw h1 h2 => ?_, fun p pv w h => ?_⟩
  · rw [hr, Option.some.injEq] at h1
    rw [he, CodeWord.frame.injEq] at h2
    subst h1 h2
    simp only [FrameRow.fits, packFrame_and_keyMask, hb, beq_self_eq_true]
  · rw [he] at h; cases h

/-- A row that matches on more than the address and the direction. -/
theorem of_mask {i : Instr} {r : FrameRow} {fw : FrameWord} (hr : i.frameRow? = some r) (he : encode i = .frame fw)
    (hf : r.fits fw = true) : Statement i := by
  refine ⟨fun r' fw' h1 h2 => ?_, fun p pv w h => ?_⟩
  · rw [hr, Option.some.injEq] at h1
    rw [he, CodeWord.frame.injEq] at h2
    subst h1 h2
    exact hf
  · rw [he] at h; cases h

/-- A condition row. -/
theorem of_cond {i : Instr} {p : Phase} {w : CondWord} (hr : i.frameRow? = none) (he : encode i = .cond p true w)
    (hf : (condRow p).fits true w = true) : Statement i := by
  refine ⟨fun r fw h1 _ => ?_, fun p' pv w' h => ?_⟩
  · rw [hr] at h1; cases h1
  · rw [he] at h; cases h; exact hf

theorem condAwaitStart : Statement .condAwaitStart := of_cond rfl rfl (by decide)
theorem condAddr (d : Bool) : Statement (.condAddr d) := of_cond rfl rfl (by revert d; decide)
theorem condDir (d : Bool) : Statement (.condDir d) := of_cond rfl rfl (by revert d; decide)
theorem condSep1 (d : Bool) : Statement (.condSep1 d) := of_cond rfl rfl (by revert d; decide)
theorem condValW (d : Bool) : Statement (.condValW d) := of_cond rfl rfl (by revert d; decide)
theorem condValRFall : Statement .condValRFall := of_cond rfl rfl (by decide)
theorem condValRSkip (d : Bool) : Statement (.condValRSkip d) := of_cond rfl rfl (by revert d; decide)
theorem condSep2 (d : Bool) : Statement (.condSep2 d) := of_cond rfl rfl (by revert d; decide)
theorem wAddr0L (sep1 : Bool) (v : Byte) (sep2 : Bool) : Statement (.wAddr0L sep1 v sep2) :=
  of_key rfl rfl (by decide)
theorem wAddr0H (sep1 : Bool) (v : Byte) (sep2 : Bool) : Statement (.wAddr0H sep1 v sep2) :=
  of_key rfl rfl (by decide)
theorem wAddr0U (sep1 : Bool) (v : Byte) (sep2 : Bool) : Statement (.wAddr0U sep1 v sep2) :=
  of_key rfl rfl (by decide)
theorem wAddr1L (sep1 : Bool) (v : Byte) (sep2 : Bool) : Statement (.wAddr1L sep1 v sep2) :=
  of_key rfl rfl (by decide)
theorem wAddr1H (sep1 : Bool) (v : Byte) (sep2 : Bool) : Statement (.wAddr1H sep1 v sep2) :=
  of_key rfl rfl (by decide)
theorem wAddr1U (sep1 : Bool) (v : Byte) (sep2 : Bool) : Statement (.wAddr1U sep1 v sep2) :=
  of_key rfl rfl (by decide)
theorem wAddr2L (sep1 : Bool) (v : Byte) (sep2 : Bool) : Statement (.wAddr2L sep1 v sep2) :=
  of_key rfl rfl (by decide)
theorem wAddr2H (sep1 : Bool) (v : Byte) (sep2 : Bool) : Statement (.wAddr2H sep1 v sep2) :=
  of_key rfl rfl (by decide)
theorem wAddr2U (sep1 : Bool) (v : Byte) (sep2 : Bool) : Statement (.wAddr2U sep1 v sep2) :=
  of_key rfl rfl (by decide)
theorem wAddr3L (sep1 : Bool) (v : Byte) (sep2 : Bool) : Statement (.wAddr3L sep1 v sep2) :=
  of_key rfl rfl (by decide)
theorem wAddr3H (sep1 : Bool) (v : Byte) (sep2 : Bool) : Statement (.wAddr3H sep1 v sep2) :=
  of_key rfl rfl (by decide)
theorem wAddr3U (sep1 : Bool) (v : Byte) (sep2 : Bool) : Statement (.wAddr3U sep1 v sep2) :=
  of_key rfl rfl (by decide)
theorem wBrkCtl (sep1 : Bool) (v : Byte) (sep2 : Bool) : Statement (.wBrkCtl sep1 v sep2) :=
  of_key rfl rfl (by decide)
theorem wWrDataL (sep1 : Bool) (v : Byte) (sep2 : Bool) : Statement (.wWrDataL sep1 v sep2) :=
  of_key rfl rfl (by decide)
theorem wWrDataH (sep1 : Bool) (v : Byte) (sep2 : Bool) : Statement (.wWrDataH sep1 v sep2) :=
  of_key rfl rfl (by decide)
theorem wWrDataU (sep1 : Bool) (v : Byte) (sep2 : Bool) : Statement (.wWrDataU sep1 v sep2) :=
  of_key rfl rfl (by decide)
theorem wRwCtlRead (sep1 : Bool) (r : RegIdx) (sep2 : Bool) : Statement (.wRwCtlRead sep1 r sep2) :=
  of_mask rfl rfl (by revert sep1 r sep2; decide)
theorem wRwCtlSetAdl (sep1 sep2 : Bool) : Statement (.wRwCtlSetAdl sep1 sep2) :=
  of_mask rfl rfl (by revert sep1 sep2; decide)
theorem wRwCtlResetAdl (sep1 sep2 : Bool) : Statement (.wRwCtlResetAdl sep1 sep2) :=
  of_mask rfl rfl (by revert sep1 sep2; decide)
theorem wRwCtlWrite (sep1 : Bool) (r : RegIdx) (sep2 : Bool) : Statement (.wRwCtlWrite sep1 r sep2) :=
  of_mask rfl rfl (by revert sep1 r sep2; decide)
theorem wIs4 (sep1 : Bool) (v : Byte) (sep2 : Bool) : Statement (.wIs4 sep1 v sep2) :=
  of_key rfl rfl (by decide)
theorem wIs3 (sep1 : Bool) (v : Byte) (sep2 : Bool) : Statement (.wIs3 sep1 v sep2) :=
  of_key rfl rfl (by decide)
theorem wIs2 (sep1 : Bool) (v : Byte) (sep2 : Bool) : Statement (.wIs2 sep1 v sep2) :=
  of_key rfl rfl (by decide)
theorem wIs1 (sep1 : Bool) (v : Byte) (sep2 : Bool) : Statement (.wIs1 sep1 v sep2) :=
  of_key rfl rfl (by decide)
theorem wIs0 (sep1 : Bool) (v : Byte) (sep2 : Bool) : Statement (.wIs0 sep1 v sep2) :=
  of_key rfl rfl (by decide)
theorem rStat (sep1 : Bool) (v : Byte) (sep2 : Bool) : Statement (.rStat sep1 v sep2) :=
  of_key rfl rfl (by decide)
theorem rRdL (sep1 : Bool) (v : Byte) (sep2 : Bool) : Statement (.rRdL sep1 v sep2) :=
  of_key rfl rfl (by decide)
theorem rRdH (sep1 : Bool) (v : Byte) (sep2 : Bool) : Statement (.rRdH sep1 v sep2) :=
  of_key rfl rfl (by decide)
theorem rRdU (sep1 : Bool) (v : Byte) (sep2 : Bool) : Statement (.rRdU sep1 v sep2) :=
  of_key rfl rfl (by decide)
theorem rRdMem (sep1 : Bool) (v : Byte) (sep2 : Bool) : Statement (.rRdMem sep1 v sep2) :=
  of_key rfl rfl (by decide)
theorem wRwCtlOther (sep1 : Bool) (v : Byte) (sep2 : Bool) : Statement (.wRwCtlOther sep1 v sep2) :=
  of_key rfl rfl (by decide)
theorem wUnmatched (a : Addr) (sep1 : Bool) (v : Byte) (sep2 : Bool) : Statement (.wUnmatched a sep1 v sep2) :=
  of_mask rfl rfl (by
    simp only [FrameRow.fits, packFrame_and_dirMask]
    decide)
theorem rUnmatched (a : Addr) (sep1 : Bool) (v : Byte) (sep2 : Bool) : Statement (.rUnmatched a sep1 v sep2) :=
  of_mask rfl rfl (by
    simp only [FrameRow.fits, packFrame_and_dirMask]
    decide)

end Sys2Proof.Laws.FitsRow
end

