-- ==== Sys2Proof/Laws/Step.lean ====
section
/-! SUPPORT. What a step can do, said once: `step_cases` for the events, `takeSample_cases` for a sample, and what each
phase's operation answers. -/

namespace Sys2Proof.Machine

/-- A step whose next event is a sample is the step of that sample. -/
theorem step_supplied (s : State) (x : Sample) : step (s.supplied x) = s.quiet.takeSample x := rfl

/-- What a step that answers a next state did: nothing waited, `rst`, the sample rate was stored, or a sample. -/
theorem step_cases {s t : State} (h : step s = .next t) :
    (s.input = [] ∧ t = s.quiet) ∨
    (∃ x rest, s.input = .rst x :: rest ∧ t = { State.reset with input := rest }) ∨
    (∃ r rest, s.input = .configure r :: rest ∧ s.idx = 0 ∧ s.sampleRate = none ∧
      t = { s.quiet with input := rest, sampleRate := some r }) ∨
    (∃ x rest, s.input = .sample x :: rest ∧ State.takeSample { s.quiet with input := rest } x = .next t) := by
  simp only [step, State.nextStep] at h
  split at h
  · rename_i hs
    exact .inl ⟨hs, by simpa using h.symm⟩
  · rename_i e rest hs
    cases e with
    | sample x => exact .inr (.inr (.inr ⟨x, rest, hs, h⟩))
    | rst x =>
      refine .inr (.inl ⟨x, rest, hs, ?_⟩)
      simpa [State.takeEvent, State.restart] using h.symm
    | configure r =>
      refine .inr (.inr (.inl ⟨r, rest, hs, ?_⟩))
      simp only [State.takeEvent, State.configure] at h
      split at h
      · cases h
      · rename_i h0
        split at h
        · cases h
        · rename_i h1
          exact ⟨by simpa using h0, h1, by simpa using h.symm⟩

/-- What the step of a sample did (R148): frozen by `fault`, the fault raised, the sample discarded, or the phase's
operation run. -/
theorem takeSample_cases {s t : State} {x : Sample} (h : s.takeSample x = .next t) :
    (s.fault = true ∧ t = s.advance x) ∨
    (s.fault = false ∧ s.unreachable = true ∧ t = s.raiseFault.advance x) ∨
    (s.fault = false ∧ s.unreachable = false ∧ (∃ e, decode (s.codeWord x) = .reject e) ∧ t = s.advance x) ∨
    (s.fault = false ∧ s.unreachable = false ∧
      ∃ i u, decode (s.codeWord x) = .instr i ∧ exec i s = .next u ∧ t = u.advance x) := by
  obtain ⟨u, hu, rfl⟩ := onNext_eq_next.mp h
  simp only [State.runPhase] at hu
  split at hu
  · rename_i hf
    cases hu
    exact .inl ⟨hf, rfl⟩
  · rename_i hf
    have hf : s.fault = false := by simpa using hf
    split at hu
    · rename_i hr
      cases hu
      exact .inr (.inl ⟨hf, hr, rfl⟩)
    · rename_i hr
      have hr : s.unreachable = false := by simpa using hr
      split at hu
      · rename_i i hd
        exact .inr (.inr (.inr ⟨hf, hr, i, u, hd, hu, rfl⟩))
      · rename_i e hd
        cases hu
        exact .inr (.inr (.inl ⟨hf, hr, ⟨e, hd⟩, rfl⟩))

/-- A sample that decodes is the waiting phase's operation with the sampled data bit. -/
theorem decode_codeWord_eq_instr {s : State} {x : Sample} {i : Instr} (h : decode (s.codeWord x) = .instr i) :
    i = condInstr s.phase x.d ∧
      (condRow s.phase).fits s.prevValid (packCond s.prevD s.prevC x.d x.c) = true := by
  simp only [State.codeWord, decode, decodeCond] at h
  split at h
  · rename_i hf
    refine ⟨?_, hf⟩
    cases h
    cases hd : x.d <;> cases hc : x.c <;> cases s.prevD <;> cases s.prevC <;> rfl
  · split at h <;> cases h

/-! ### What each phase's operation answers -/

theorem exec_condAwaitStart (s : State) :
    exec .condAwaitStart s = .next { s with startIdx := s.idx, addr := 0#7, bitCnt := 0#3, phase := .addr } := rfl

theorem exec_condAddr (d : Bool) (s : State) (h : s.bitCnt ≠ 7#3) :
    exec (.condAddr d) s = .next ((s.takeAddrBit d).countBit 6#3 .addr .dir) := by
  simp [exec, execCondAddr, h]

theorem exec_condDir (d : Bool) (s : State) :
    exec (.condDir d) s = .next { s with dir := d, dIdx := s.idx, phase := .sep1 } := rfl

theorem exec_condSep1 (d : Bool) (s : State) :
    exec (.condSep1 d) s = .next { s with
      sep1 := d, s1Idx := s.idx, value := 0#8, bitCnt := 0#3, phase := if s.dir then .valRFall else .valW } := rfl

theorem exec_condValW (d : Bool) (s : State) :
    exec (.condValW d) s = .next ((s.takeValueBit d).countBit 7#3 .valW .sep2) := rfl

theorem exec_condValRFall (s : State) : exec .condValRFall s = .next { s with phase := .valRSkip } := rfl

theorem exec_condValRSkip (d : Bool) (s : State) :
    exec (.condValRSkip d) s = .next ((s.takeValueBit d).countBit 7#3 .valRFall .sep2) := rfl

theorem exec_condSep2 (d : Bool) (s : State) :
    exec (.condSep2 d) s =
      .next (s.commit (s.frame d) (classify (s.transaction (s.frame d)) s.session)) := rfl

end Sys2Proof.Machine
end

