-- ==== Sys2Proof/Tests/Slice0.lean ====
section
/-! SUPPORT. The tests: what WellFormed refuses, a word of every row of spec/opcode_table.json written out from its
encoding string, single steps whose expected results are the vectors of 95_test_vectors.md (T1, T2, T4, T5), and for
every statement with hypotheses a state and operands that meet them. -/

open Sys2Proof Sys2Proof.Machine

namespace Sys2Proof.Tests

/-! ### Helpers -/

/-- What a step leaves in one field, if it answers a next state. -/
def after {α : Type} (s : State) (f : State → α) : Option α :=
  match step s with
  | .next t => some (f t)
  | .fault _ => none
  | .refused _ => none

/-- A state of Part T2 of the vectors: index 100, a previous sample, one sample supplied. -/
def waiting (p : Phase) (cnt : BitVec 3) (prev x : Sample) : State :=
  { State.reset with
    phase := p, bitCnt := cnt, idx := 100, prevValid := true, prevD := prev.d, prevC := prev.c, input := [.sample x] }

/-- The action of the 22nd record, if there is one. -/
def actionOf (rs : List Record) : Option Action :=
  match rs[21]? with
  | some r =>
    match r.payload with
    | .act a => some a
    | .none | .bit _ | .dir _ | .addr _ | .val _ => none
  | none => none

/-- The action and the session after the step that runs a frame word. -/
def classifyFrame (fw : FrameWord) (acc : Acc) (sel : RegIdx) : Option (Option Action × Acc × RegIdx) :=
  after (State.withFetchWord { State.reset with session := { Session.reset with acc := acc, sel := sel } } 24 fw.toNat)
    fun t => (actionOf t.recPort, t.session.acc, t.session.sel)

/-- The action and the shadow lane after the step that runs a register read. -/
def readRegister (fw : FrameWord) (sel : RegIdx) (l : Lane) : Option (Option Action × Byte × Bool) :=
  after (State.withFetchWord { State.reset with session := { Session.reset with sel := sel } } 24 fw.toNat)
    fun t => (actionOf t.recPort, t.session.shadowAt sel l, t.session.validAt sel l)

/-- The frame of `RD(0x03, 0xb4)` at p = 30, about to sample separator-2 at 97 (T2.22). -/
def aboutToCommit : State :=
  { State.reset with
    phase := .sep2, idx := 97, prevValid := true, prevD := true, prevC := false
    addr := 0x03#7, dir := true, sep1 := true, value := 0xb4#8
    startIdx := 30, aIdx := #v[33, 37, 41, 45, 49, 53, 57], dIdx := 61, s1Idx := 65
    vIdx := #v[68, 72, 76, 80, 84, 88, 92, 96] }

/-! ### What WellFormed refuses -/

/-- R192: the value 0x05 belongs to W_RW_CTL_READ. -/
theorem test_wellFormed_refuses_otherControl_read : Instr.wellFormed (.wRwCtlOther false 0x05#8 false) = false := by decide

/-- R192: the value 0x87 belongs to W_RW_CTL_WRITE. -/
theorem test_wellFormed_refuses_otherControl_write : Instr.wellFormed (.wRwCtlOther true 0x87#8 true) = false := by decide

/-- R198: the address 0x13 has a write row. -/
theorem test_wellFormed_refuses_matched_write : Instr.wellFormed (.wUnmatched 0x13#7 false 0x00#8 false) = false := by decide

/-- R204: the address 0x03 has a read row. -/
theorem test_wellFormed_refuses_matched_read : Instr.wellFormed (.rUnmatched 0x03#7 false 0x00#8 false) = false := by decide

/-- R75: `skip N` has N ≥ 1. -/
theorem test_wellFormed_refuses_skip_zero : ConditionSpec.wellFormed (.skip 0) = false := by decide

/-- R75: a channel is constrained at most once. -/
theorem test_wellFormed_refuses_two_constraints :
    ConditionSpec.wellFormed (.constraints [(.clock, .rising), (.clock, .high)]) = false := by decide

/-- R254: a table with such a spec is refused. -/
theorem test_buildConditionTable_refuses : (buildConditionTable fun _ => .skip 0).isNone = true := by decide

/-- The operands at the ends of the fall-through ranges are accepted (R192, R198, R204). -/
theorem test_wellFormed_accepts_the_ranges :
    ([0x0a#8, 0x7f#8, 0x88#8, 0xff#8].all fun v => Instr.wellFormed (.wRwCtlOther false v false)) = true ∧
    ([0x03#7, 0x07#7, 0x0b#7, 0x0f#7, 0x11#7, 0x12#7, 0x17#7, 0x20#7, 0x26#7, 0x7f#7].all fun a =>
      Instr.wellFormed (.wUnmatched a false 0x5a#8 false)) = true ∧
    ([0x00#7, 0x04#7, 0x13#7, 0x16#7, 0x21#7, 0x7f#7].all fun a =>
      Instr.wellFormed (.rUnmatched a false 0x5a#8 false)) = true := by decide

/-! ### Decoding: one word of every row -/

/-- `COND_AWAIT_START`, encoding `1x01`. -/
theorem test_decode_condAwaitStart :
    decode (.cond .awaitStart true 0b1001#4) = .instr .condAwaitStart := by decide

/-- `COND_ADDR`, encoding `x0d1`. -/
theorem test_decode_condAddr :
    decode (.cond .addr true 0b0011#4) = .instr (.condAddr true) := by decide

/-- `COND_DIR`, encoding `x0d1`. -/
theorem test_decode_condDir :
    decode (.cond .dir true 0b1001#4) = .instr (.condDir false) := by decide

/-- `COND_SEP1`, encoding `x0d1`. -/
theorem test_decode_condSep1 :
    decode (.cond .sep1 true 0b1011#4) = .instr (.condSep1 true) := by decide

/-- `COND_VAL_W`, encoding `x0d1`. -/
theorem test_decode_condValW :
    decode (.cond .valW true 0b0001#4) = .instr (.condValW false) := by decide

/-- `COND_VAL_R_FALL`, encoding `x1x0`. -/
theorem test_decode_condValRFall :
    decode (.cond .valRFall true 0b1110#4) = .instr .condValRFall := by decide

/-- `COND_VAL_R_SKIP`, encoding `xxdx`. -/
theorem test_decode_condValRSkip :
    decode (.cond .valRSkip true 0b1110#4) = .instr (.condValRSkip true) := by decide

/-- `COND_SEP2`, encoding `x0d1`. -/
theorem test_decode_condSep2 :
    decode (.cond .sep2 true 0b0001#4) = .instr (.condSep2 false) := by decide

/-- `W_ADDR0_L`, encoding `00000000svvvvvvvvt`. -/
theorem test_decode_wAddr0L :
    decodeFrame 0b000000000000000010#18 = .wAddr0L false 0x01#8 false := by decide

/-- `W_ADDR0_H`, encoding `00000010svvvvvvvvt`. -/
theorem test_decode_wAddr0H :
    decodeFrame 0b000000101000000000#18 = .wAddr0H true 0x00#8 false := by decide

/-- `W_ADDR0_U`, encoding `00000100svvvvvvvvt`. -/
theorem test_decode_wAddr0U :
    decodeFrame 0b000001000111111111#18 = .wAddr0U false 0xff#8 true := by decide

/-- `W_ADDR1_L`, encoding `00001000svvvvvvvvt`. -/
theorem test_decode_wAddr1L :
    decodeFrame 0b000010001000100101#18 = .wAddr1L true 0x12#8 true := by decide

/-- `W_ADDR1_H`, encoding `00001010svvvvvvvvt`. -/
theorem test_decode_wAddr1H :
    decodeFrame 0b000010100100000000#18 = .wAddr1H false 0x80#8 false := by decide

/-- `W_ADDR1_U`, encoding `00001100svvvvvvvvt`. -/
theorem test_decode_wAddr1U :
    decodeFrame 0b000011001011111110#18 = .wAddr1U true 0x7f#8 false := by decide

/-- `W_ADDR2_L`, encoding `00010000svvvvvvvvt`. -/
theorem test_decode_wAddr2L :
    decodeFrame 0b000100000101001011#18 = .wAddr2L false 0xa5#8 true := by decide

/-- `W_ADDR2_H`, encoding `00010010svvvvvvvvt`. -/
theorem test_decode_wAddr2H :
    decodeFrame 0b000100101010110101#18 = .wAddr2H true 0x5a#8 true := by decide

/-- `W_ADDR2_U`, encoding `00010100svvvvvvvvt`. -/
theorem test_decode_wAddr2U :
    decodeFrame 0b000101000000100000#18 = .wAddr2U false 0x10#8 false := by decide

/-- `W_ADDR3_L`, encoding `00011000svvvvvvvvt`. -/
theorem test_decode_wAddr3L :
    decodeFrame 0b000110001000011110#18 = .wAddr3L true 0x0f#8 false := by decide

/-- `W_ADDR3_H`, encoding `00011010svvvvvvvvt`. -/
theorem test_decode_wAddr3H :
    decodeFrame 0b000110100111100001#18 = .wAddr3H false 0xf0#8 true := by decide

/-- `W_ADDR3_U`, encoding `00011100svvvvvvvvt`. -/
theorem test_decode_wAddr3U :
    decodeFrame 0b000111001001111001#18 = .wAddr3U true 0x3c#8 true := by decide

/-- `W_BRK_CTL`, encoding `00100000svvvvvvvvt`. -/
theorem test_decode_wBrkCtl :
    decodeFrame 0b001000000100100010#18 = .wBrkCtl false 0x91#8 false := by decide

/-- `W_WR_DATA_L`, encoding `00100110svvvvvvvvt`. -/
theorem test_decode_wWrDataL :
    decodeFrame 0b001001101001101000#18 = .wWrDataL true 0x34#8 false := by decide

/-- `W_WR_DATA_H`, encoding `00101000svvvvvvvvt`. -/
theorem test_decode_wWrDataH :
    decodeFrame 0b001010000000100101#18 = .wWrDataH false 0x12#8 true := by decide

/-- `W_WR_DATA_U`, encoding `00101010svvvvvvvvt`. -/
theorem test_decode_wWrDataU :
    decodeFrame 0b001010101000000001#18 = .wWrDataU true 0x00#8 true := by decide

/-- `W_RW_CTL_READ`, encoding `00101100s00000rrrt`. -/
theorem test_decode_wRwCtlRead :
    decodeFrame 0b001011001000000110#18 = .wRwCtlRead true 3#3 false := by decide

/-- `W_RW_CTL_SET_ADL`, encoding `00101100s00001000t`. -/
theorem test_decode_wRwCtlSetAdl :
    decodeFrame 0b001011001000010001#18 = .wRwCtlSetAdl true true := by decide

/-- `W_RW_CTL_RESET_ADL`, encoding `00101100s00001001t`. -/
theorem test_decode_wRwCtlResetAdl :
    decodeFrame 0b001011000000010010#18 = .wRwCtlResetAdl false false := by decide

/-- `W_RW_CTL_WRITE`, encoding `00101100s10000rrrt`. -/
theorem test_decode_wRwCtlWrite :
    decodeFrame 0b001011001100000000#18 = .wRwCtlWrite true 0#3 false := by decide

/-- `W_RW_CTL_OTHER`, encoding `00101100svvvvvvvvt`. -/
theorem test_decode_wRwCtlOther :
    decodeFrame 0b001011001000010101#18 = .wRwCtlOther true 0x0a#8 true := by decide

/-- `W_IS4`, encoding `01000010svvvvvvvvt`. -/
theorem test_decode_wIs4 :
    decodeFrame 0b010000101000100011#18 = .wIs4 true 0x11#8 true := by decide

/-- `W_IS3`, encoding `01000100svvvvvvvvt`. -/
theorem test_decode_wIs3 :
    decodeFrame 0b010001000001000100#18 = .wIs3 false 0x22#8 false := by decide

/-- `W_IS2`, encoding `01000110svvvvvvvvt`. -/
theorem test_decode_wIs2 :
    decodeFrame 0b010001101001100110#18 = .wIs2 true 0x33#8 false := by decide

/-- `W_IS1`, encoding `01001000svvvvvvvvt`. -/
theorem test_decode_wIs1 :
    decodeFrame 0b010010000010001001#18 = .wIs1 false 0x44#8 true := by decide

/-- `W_IS0`, encoding `01001010svvvvvvvvt`. -/
theorem test_decode_wIs0 :
    decodeFrame 0b010010101010101011#18 = .wIs0 true 0x55#8 true := by decide

/-- `W_UNMATCHED`, encoding `aaaaaaa0svvvvvvvvt`. -/
theorem test_decode_wUnmatched :
    decodeFrame 0b000001100010110100#18 = .wUnmatched 0x03#7 false 0x5a#8 false := by decide

/-- `R_STAT`, encoding `00000111svvvvvvvvt`. -/
theorem test_decode_rStat :
    decodeFrame 0b000001110000000001#18 = .rStat false 0x00#8 true := by decide

/-- `R_RD_L`, encoding `00100001svvvvvvvvt`. -/
theorem test_decode_rRdL :
    decodeFrame 0b001000011011110000#18 = .rRdL true 0x78#8 false := by decide

/-- `R_RD_H`, encoding `00100011svvvvvvvvt`. -/
theorem test_decode_rRdH :
    decodeFrame 0b001000110010101101#18 = .rRdH false 0x56#8 true := by decide

/-- `R_RD_U`, encoding `00100101svvvvvvvvt`. -/
theorem test_decode_rRdU :
    decodeFrame 0b001001011001101001#18 = .rRdU true 0x34#8 true := by decide

/-- `R_RD_MEM`, encoding `01000001svvvvvvvvt`. -/
theorem test_decode_rRdMem :
    decodeFrame 0b010000011110000110#18 = .rRdMem true 0xc3#8 false := by decide

/-- `R_UNMATCHED`, encoding `aaaaaaa1svvvvvvvvt`. -/
theorem test_decode_rUnmatched :
    decodeFrame 0b000000010010110101#18 = .rUnmatched 0x00#7 false 0x5a#8 true := by decide

/-- R100: a sample that does not meet the phase's condition is rejected by name, and so is one with no sample before it. -/
theorem test_decode_rejects :
    decode (.cond .awaitStart true 0b1111#4) = .reject (.conditionFalse .awaitStart) ∧
    decode (.cond .addr false 0b0001#4) = .reject (.noPreviousSample .addr) := by decide

/-- The table's numbering: `cond4` words in one byte, `frame18` words in three (log entry 10). -/
theorem test_decodeTableWord :
    decodeTableWord 8 0x9 = some .condAwaitStart ∧ decodeTableWord 8 0x4 = some .condValRFall ∧
    decodeTableWord 8 0x0 = some (.condValRSkip false) ∧ decodeTableWord 24 0x1000 = some (.wAddr0U false 0x00#8 false) ∧
    decodeTableWord 24 0x40000 = none := by decide

/-! ### The phases, one step each (T2) -/

/-- T2.1. -/
theorem test_condAwaitStart_T2_1 :
    after (waiting .awaitStart 0#3 ⟨true, true⟩ ⟨false, true⟩) (fun t => (t.phase, t.bitCnt, t.startIdx, t.addr, t.idx)) =
      some (.addr, 0#3, 100, 0x00#7, 101) := by decide

/-- T2.3: a data fall with the clock low is not a start. -/
theorem test_condAwaitStart_T2_3 :
    after (waiting .awaitStart 0#3 ⟨true, false⟩ ⟨false, false⟩) (fun t => (t.phase, t.startIdx)) =
      some (.awaitStart, 0) := by decide

/-- T2.6. -/
theorem test_condAddr_T2_6 :
    after { waiting .addr 3#3 ⟨false, false⟩ ⟨false, true⟩ with addr := 0x05#7 }
      (fun t => (t.phase, t.bitCnt, t.addr, t.aIdx)) = some (.addr, 4#3, 0x0a#7, #v[0, 0, 0, 100, 0, 0, 0]) := by decide

/-- T2.7. -/
theorem test_condAddr_T2_7 :
    after { waiting .addr 6#3 ⟨true, false⟩ ⟨true, true⟩ with addr := 0x3f#7 }
      (fun t => (t.phase, t.bitCnt, t.addr, t.aIdx)) = some (.dir, 0#3, 0x7f#7, #v[0, 0, 0, 0, 0, 0, 100]) := by decide

/-- T2.10. -/
theorem test_condDir_T2_10 :
    after (waiting .dir 0#3 ⟨true, false⟩ ⟨true, true⟩) (fun t => (t.phase, t.dir, t.dIdx)) =
      some (.sep1, true, 100) := by decide

/-- T2.11. -/
theorem test_condDir_T2_11 :
    after { waiting .dir 0#3 ⟨false, false⟩ ⟨false, true⟩ with dir := true } (fun t => (t.phase, t.dir, t.dIdx)) =
      some (.sep1, false, 100) := by decide

/-- T2.12. -/
theorem test_condSep1_T2_12 :
    after { waiting .sep1 0#3 ⟨true, false⟩ ⟨true, true⟩ with value := 0xff#8 }
      (fun t => (t.phase, t.sep1, t.s1Idx, t.value)) = some (.valW, true, 100, 0x00#8) := by decide

/-- T2.13. -/
theorem test_condSep1_T2_13 :
    after { waiting .sep1 0#3 ⟨false, false⟩ ⟨false, true⟩ with dir := true }
      (fun t => (t.phase, t.sep1, t.s1Idx, t.value)) = some (.valRFall, false, 100, 0x00#8) := by decide

/-- T2.15. -/
theorem test_condValW_T2_15 :
    after { waiting .valW 7#3 ⟨true, false⟩ ⟨true, true⟩ with value := 0x52#8 }
      (fun t => (t.phase, t.bitCnt, t.value, t.vIdx)) =
      some (.sep2, 0#3, 0xa5#8, #v[0, 0, 0, 0, 0, 0, 0, 100]) := by decide

/-- T2.16: a clock fall takes no bit. -/
theorem test_condValW_T2_16 :
    after { waiting .valW 3#3 ⟨false, true⟩ ⟨true, false⟩ with value := 0x05#8 } (fun t => (t.phase, t.bitCnt, t.value)) =
      some (.valW, 3#3, 0x05#8) := by decide

/-- T2.17. -/
theorem test_condValRFall_T2_17 :
    after (waiting .valRFall 0#3 ⟨true, true⟩ ⟨true, false⟩) (fun t => (t.phase, t.bitCnt, t.value)) =
      some (.valRSkip, 0#3, 0x00#8) := by decide

/-- T2.18: a clock rise is ignored. -/
theorem test_condValRFall_T2_18 :
    after { waiting .valRFall 2#3 ⟨false, false⟩ ⟨true, true⟩ with value := 0x03#8 }
      (fun t => (t.phase, t.bitCnt, t.value)) = some (.valRFall, 2#3, 0x03#8) := by decide

/-- T2.20: the bit is taken although the clock rises. -/
theorem test_condValRSkip_T2_20 :
    after { waiting .valRSkip 4#3 ⟨false, false⟩ ⟨false, true⟩ with value := 0x09#8 }
      (fun t => (t.phase, t.bitCnt, t.value, t.vIdx)) =
      some (.valRFall, 5#3, 0x12#8, #v[0, 0, 0, 0, 100, 0, 0, 0]) := by decide

/-- T2.21. -/
theorem test_condValRSkip_T2_21 :
    after { waiting .valRSkip 7#3 ⟨true, false⟩ ⟨true, false⟩ with value := 0x5a#8 }
      (fun t => (t.phase, t.bitCnt, t.value)) = some (.sep2, 0#3, 0xb5#8) := by decide

/-- T2.22: the transaction, and the REGISTER, first value bit, VALUE and ACTION records of T3.2 moved by 28. -/
theorem test_condSep2_T2_22 :
    after (aboutToCommit.supplied ⟨true, true⟩) (fun t => (t.phase, t.bitCnt, t.sep2, t.txPort, t.recPort.length)) =
      some (.awaitStart, 0#3, true, some ⟨0x03#7, .read, 0xb4#8, 30, 97⟩, 22) ∧
    after (aboutToCommit.supplied ⟨true, true⟩) (fun t => [8, 11, 20, 21].map fun k => t.recPort[k]?) =
      some [some ⟨33, 61, .register, .addr 0x03#7⟩, some ⟨67, 68, .bit, .bit true⟩,
            some ⟨68, 97, .value, .val 0xb4#8⟩, some ⟨30, 97, .action, .act (.stat 0xb4#8)⟩] := by decide

/-- T2.23: a clock fall commits nothing. -/
theorem test_condSep2_T2_23 :
    after (waiting .sep2 0#3 ⟨true, true⟩ ⟨true, false⟩) (fun t => (t.phase, t.txPort, t.recPort)) =
      some (.sep2, none, []) := by decide

/-- T2.24: the unreachable state. -/
theorem test_fault_T2_24 :
    after (waiting .addr 7#3 ⟨true, false⟩ ⟨true, true⟩) (fun t => (t.fault, t.phase, t.bitCnt, t.addr, t.idx)) =
      some (true, .addr, 7#3, 0x00#7, 101) := by decide

/-! ### The classifier, one step each (T4) -/

/-- T4.1, R172. -/
theorem test_wAddr0L_T4_1 :
    classifyFrame 0b000000000000000010#18 0x000000#24 0#3 =
      some (some (.addrReg 0 .low 0x01#8), 0x000000#24, 0#3) := by decide

/-- T4.2, R173. -/
theorem test_wAddr0H_T4_2 :
    classifyFrame 0b000000101000000000#18 0x000000#24 0#3 =
      some (some (.addrReg 0 .high 0x00#8), 0x000000#24, 0#3) := by decide

/-- T4.3, R174. -/
theorem test_wAddr0U_T4_3 :
    classifyFrame 0b000001000111111111#18 0x000000#24 0#3 =
      some (some (.addrReg 0 .upper 0xff#8), 0x000000#24, 0#3) := by decide

/-- T4.4, R175. -/
theorem test_wAddr1L_T4_4 :
    classifyFrame 0b000010001000100101#18 0x000000#24 0#3 =
      some (some (.addrReg 1 .low 0x12#8), 0x000000#24, 0#3) := by decide

/-- T4.5, R176. -/
theorem test_wAddr1H_T4_5 :
    classifyFrame 0b000010100100000000#18 0x000000#24 0#3 =
      some (some (.addrReg 1 .high 0x80#8), 0x000000#24, 0#3) := by decide

/-- T4.6, R177. -/
theorem test_wAddr1U_T4_6 :
    classifyFrame 0b000011001011111110#18 0x000000#24 0#3 =
      some (some (.addrReg 1 .upper 0x7f#8), 0x000000#24, 0#3) := by decide

/-- T4.7, R178. -/
theorem test_wAddr2L_T4_7 :
    classifyFrame 0b000100000101001011#18 0x000000#24 0#3 =
      some (some (.addrReg 2 .low 0xa5#8), 0x000000#24, 0#3) := by decide

/-- T4.8, R179. -/
theorem test_wAddr2H_T4_8 :
    classifyFrame 0b000100101010110101#18 0x000000#24 0#3 =
      some (some (.addrReg 2 .high 0x5a#8), 0x000000#24, 0#3) := by decide

/-- T4.9, R180. -/
theorem test_wAddr2U_T4_9 :
    classifyFrame 0b000101000000100000#18 0x000000#24 0#3 =
      some (some (.addrReg 2 .upper 0x10#8), 0x000000#24, 0#3) := by decide

/-- T4.10, R181. -/
theorem test_wAddr3L_T4_10 :
    classifyFrame 0b000110001000011110#18 0x000000#24 0#3 =
      some (some (.addrReg 3 .low 0x0f#8), 0x000000#24, 0#3) := by decide

/-- T4.11, R182. -/
theorem test_wAddr3H_T4_11 :
    classifyFrame 0b000110100111100001#18 0x000000#24 0#3 =
      some (some (.addrReg 3 .high 0xf0#8), 0x000000#24, 0#3) := by decide

/-- T4.12, R183. -/
theorem test_wAddr3U_T4_12 :
    classifyFrame 0b000111001001111001#18 0x000000#24 0#3 =
      some (some (.addrReg 3 .upper 0x3c#8), 0x000000#24, 0#3) := by decide

/-- T4.13, R184. -/
theorem test_wBrkCtl_T4_13 :
    classifyFrame 0b001000000100100010#18 0x000000#24 0#3 =
      some (some (.brkCtl 0x91#8), 0x000000#24, 0#3) := by decide

/-- T4.14, R185. -/
theorem test_wWrDataL_T4_14 :
    classifyFrame 0b001001101001101000#18 0xabcdef#24 0#3 =
      some (none, 0xabcd34#24, 0#3) := by decide

/-- T4.15, R186. -/
theorem test_wWrDataH_T4_15 :
    classifyFrame 0b001010000000100101#18 0xabcdef#24 0#3 =
      some (none, 0xab12ef#24, 0#3) := by decide

/-- T4.16, R187. -/
theorem test_wWrDataU_T4_16 :
    classifyFrame 0b001010101000000001#18 0xabcdef#24 0#3 =
      some (none, 0x00cdef#24, 0#3) := by decide

/-- T4.18, R188. -/
theorem test_wRwCtlRead_T4_18 :
    classifyFrame 0b001011001000000110#18 0x000000#24 0#3 =
      some (some (.rwRead 3#3), 0x000000#24, 3#3) := by decide

/-- T4.20, R189. -/
theorem test_wRwCtlSetAdl_T4_20 :
    classifyFrame 0b001011001000010001#18 0x000000#24 0#3 =
      some (some .setAdl, 0x000000#24, 0#3) := by decide

/-- T4.21, R190. -/
theorem test_wRwCtlResetAdl_T4_21 :
    classifyFrame 0b001011000000010010#18 0x000000#24 0#3 =
      some (some .resetAdl, 0x000000#24, 0#3) := by decide

/-- T4.22, R191. -/
theorem test_wRwCtlWrite_T4_22 :
    classifyFrame 0b001011001100000000#18 0x001234#24 0#3 =
      some (some (.rwWrite 0#3 0x001234#24), 0x001234#24, 0#3) := by decide

/-- T4.23, R191. -/
theorem test_wRwCtlWrite_T4_23 :
    classifyFrame 0b001011000100001111#18 0xfedcba#24 2#3 =
      some (some (.rwWrite 7#3 0xfedcba#24), 0xfedcba#24, 2#3) := by decide

/-- T4.24, R192. -/
theorem test_wRwCtlOther_T4_24 :
    classifyFrame 0b001011001000010101#18 0x123456#24 5#3 =
      some (none, 0x123456#24, 5#3) := by decide

/-- T4.27, R192. -/
theorem test_wRwCtlOther_T4_27 :
    classifyFrame 0b001011000111111111#18 0x123456#24 5#3 =
      some (none, 0x123456#24, 5#3) := by decide

/-- T4.28, R193. -/
theorem test_wIs4_T4_28 :
    classifyFrame 0b010000101000100011#18 0x000000#24 0#3 =
      some (some (.is 4 0x11#8), 0x000000#24, 0#3) := by decide

/-- T4.29, R194. -/
theorem test_wIs3_T4_29 :
    classifyFrame 0b010001000001000100#18 0x000000#24 0#3 =
      some (some (.is 3 0x22#8), 0x000000#24, 0#3) := by decide

/-- T4.30, R195. -/
theorem test_wIs2_T4_30 :
    classifyFrame 0b010001101001100110#18 0x000000#24 0#3 =
      some (some (.is 2 0x33#8), 0x000000#24, 0#3) := by decide

/-- T4.31, R196. -/
theorem test_wIs1_T4_31 :
    classifyFrame 0b010010000010001001#18 0x000000#24 0#3 =
      some (some (.is 1 0x44#8), 0x000000#24, 0#3) := by decide

/-- T4.32, R197. -/
theorem test_wIs0_T4_32 :
    classifyFrame 0b010010101010101011#18 0x000000#24 0#3 =
      some (some (.is 0 0x55#8), 0x000000#24, 0#3) := by decide

/-- T4.33, R198. -/
theorem test_wUnmatched_T4_33 :
    classifyFrame 0b000001100010110100#18 0x123456#24 5#3 =
      some (none, 0x123456#24, 5#3) := by decide

/-- T4.34, R198. -/
theorem test_wUnmatched_T4_34 :
    classifyFrame 0b000011101010110100#18 0x123456#24 5#3 =
      some (none, 0x123456#24, 5#3) := by decide

/-- T4.43, R199. -/
theorem test_rStat_T4_43 :
    classifyFrame 0b000001110000000001#18 0x000000#24 0#3 =
      some (some (.stat 0x00#8), 0x000000#24, 0#3) := by decide

/-- T4.44, R199. -/
theorem test_rStat_T4_44 :
    classifyFrame 0b000001111111111111#18 0x000000#24 0#3 =
      some (some (.stat 0xff#8), 0x000000#24, 0#3) := by decide

/-- T4.46, R200. -/
theorem test_rRdL_T4_46 :
    readRegister 0b001000011011110000#18 4#3 .low =
      some (some (.rdReg 4#3 .low 0x78#8), 0x78#8, true) := by decide

/-- T4.47, R201. -/
theorem test_rRdH_T4_47 :
    readRegister 0b001000110010101101#18 4#3 .high =
      some (some (.rdReg 4#3 .high 0x56#8), 0x56#8, true) := by decide

/-- T4.48, R202. -/
theorem test_rRdU_T4_48 :
    readRegister 0b001001011001101001#18 4#3 .upper =
      some (some (.rdReg 4#3 .upper 0x34#8), 0x34#8, true) := by decide

/-- T4.49, R200, R208. -/
theorem test_rRdL_T4_49 :
    readRegister 0b001000010100110010#18 0#3 .low =
      some (some (.rdReg 0#3 .low 0x99#8), 0x99#8, true) := by decide

/-- T4.50, R203. -/
theorem test_rRdMem_T4_50 :
    classifyFrame 0b010000011110000110#18 0x000000#24 0#3 =
      some (some (.rdMem 0xc3#8), 0x000000#24, 0#3) := by decide

/-- T4.51, R204. -/
theorem test_rUnmatched_T4_51 :
    classifyFrame 0b000000010010110101#18 0x123456#24 5#3 =
      some (none, 0x123456#24, 5#3) := by decide

/-- T4.52, R204. -/
theorem test_rUnmatched_T4_52 :
    classifyFrame 0b000010011010110101#18 0x123456#24 5#3 =
      some (none, 0x123456#24, 5#3) := by decide

/-! ### Text forms (T5 and the document's own strings) -/

theorem test_hex : [0, 1, 180, 127, 4660, 16777215, 256].map hex =
    ["0x0", "0x1", "0xb4", "0x7f", "0x1234", "0xffffff", "0x100"] := by decide

theorem test_brkFlags : [0x00#8, 0xff#8, 0x89#8, 0x91#8, 0x80#8, 0x01#8, 0x40#8, 0x06#8].map brkFlags =
    ["", "BNB3B2B1B0I1I0S", "BNB0S", "BNB1S", "BN", "S", "B3", "I1I0"] := by decide

theorem test_statFlags : [0x00#8, 0xff#8, 0xb4#8].map statFlags = ["zhami", "ZHAMI", "ZHAmI"] := by decide

/-- T4.1, T4.18, T4.23, T4.46. -/
theorem test_actionLong :
    [Action.addrReg 0 .low 0x01#8, .rwRead 3#3, .rwWrite 7#3 0xfedcba#24, .rdReg 4#3 .low 0x78#8].map actionLong =
      ["ADDR0_L = 0x1", "Read HL", "Write PC = 0xfedcba", "IX_L = 0x78"] := by decide

/-- R109: the first alternative that holds wins. -/
theorem test_matchedIndex :
    matchedIndex [.constraints [(.clock, .rising)], .constraints [(.data, .high)], .constraints [(.clock, .high)]]
      true ⟨true, true⟩ ⟨true, true⟩ 1 = some 1 := by decide

/-- L1.5, the last dispatch: R207, the accumulator stays. -/
theorem test_accumulator_kept :
    classifyFrame 0b001011001100000001#18 0x001234#24 0#3 =
      some (some (.rwWrite 0#3 0x001234#24), 0x001234#24, 0#3) := by decide

/-! ### The host -/

/-- With nothing supplied a step changes no register and empties the ports (log entry 3). -/
theorem test_idle_step : step { aboutToCommit with recPort := [⟨1, 2, .start, .none⟩] } = .next aboutToCommit := rfl

/-- R280; the rest of the supply stays (log entry 14). -/
theorem test_rst : step { aboutToCommit with fault := true, input := [.rst ⟨true, true⟩, .configure 5] } =
    .next { State.reset with input := [.configure 5] } := rfl

/-! ### Hypotheses that are met -/

/-- ConfigureStoresOnlyTheSampleRate, SampleRateOutsideTheHostTableIsRefused: both clauses of the second. -/
theorem witness_sampleRate :
    (State.reset.idx = 0 ∧ State.reset.sampleRate = none) ∧ aboutToCommit.idx ≠ 0 ∧
    (State.idx { State.reset with sampleRate := some 24 } = 0 ∧
      State.sampleRate { State.reset with sampleRate := some 24 } ≠ none) := by decide

/-- FirstSampleHasNoEdge, PreviousSampleIsUnreadBeforeTheFirst. -/
theorem witness_prevValid : State.reset.prevValid = false := by decide

/-- SampleRunsItsPhaseOrIsDiscarded, PhaseMovesAlongTheTransitionTable and every PhaseWaitsFor: in each phase a sample
that meets the condition, and in each but VAL_R_SKIP one that does not. -/
theorem witness_phases :
    (Phase.all.all fun p =>
      let s := waiting p 6#3 ⟨true, p == .valRFall⟩ ⟨false, p != .valRFall⟩
      !s.fault && !s.unreachable && s.phase == p && s.conditionHolds ⟨false, p != .valRFall⟩ &&
        (p == .valRSkip || !s.conditionHolds ⟨true, p == .valRFall⟩)) = true := by decide

/-- PatternFitsExactlyWhenTheSpecHolds: the start condition. -/
theorem witness_pattern :
    (conditionTable .awaitStart).wellFormed = true ∧
    patternOf (conditionTable .awaitStart) = some ⟨0b1011#4, 0b1001#4, true⟩ := by decide

/-- IllFormedConditionTableIsRefused. -/
theorem witness_illFormed : ((fun _ => .constraints [(.data, .low), (.data, .high)]) Phase.dir : ConditionSpec).wellFormed =
    false := by decide

/-- AddressBitIsShiftedIn, WriteValueBitIsShiftedIn, ReadValueBitIsShiftedInAfterTheSkip: the last bit and the others. -/
theorem witness_counts :
    ((6#3 : BitVec 3) ≠ 7#3 ∧ (0#3 : BitVec 3) ≠ 7#3 ∧ (5#3 : BitVec 3) ≠ 6#3) ∧
    (waiting .addr 6#3 ⟨true, false⟩ ⟨true, true⟩).bitCnt = 6#3 ∧
    (waiting .valW 7#3 ⟨true, false⟩ ⟨true, true⟩).bitCnt = 7#3 := by decide

/-- EveryFrameNeedsItsOwnStart: a commit, and a step out of AWAIT_START. -/
theorem witness_frames :
    (aboutToCommit.commits ⟨true, true⟩ = true ∧ (after (aboutToCommit.supplied ⟨true, true⟩) id).isSome = true) ∧
    after (waiting .awaitStart 0#3 ⟨true, true⟩ ⟨false, true⟩) (fun t => decide (t.phase = .awaitStart)) = some false := by
  decide

/-- StartConditionInsideAFrameIsIgnored (T2.9), with the phase ADDR before and after. -/
theorem witness_startInside :
    let s := waiting .addr 2#3 ⟨true, true⟩ ⟨false, true⟩
    s.phase ≠ .awaitStart ∧ s.falls .data ⟨false, true⟩ = true ∧ s.prevC = true ∧ s.phase ≠ .valRSkip ∧
    after (s.supplied ⟨false, true⟩) (fun t => (t.phase, t.bitCnt, t.addr)) = some (.addr, 2#3, 0x00#7) := by decide

/-- PhasesKeepTheSession: both clauses. -/
theorem witness_session :
    (exec (condInstr .dir true) State.reset = .next { State.reset with dir := true, phase := .sep1 }) ∧
    (∃ t, exec (.condSep2 true) aboutToCommit = .next t) := ⟨rfl, _, rfl⟩

/-- StepRunsTheDecodedOperation. -/
theorem witness_decoded :
    let s := waiting .addr 6#3 ⟨true, false⟩ ⟨true, true⟩
    s.fault = false ∧ s.unreachable = false ∧ decode (s.codeWord ⟨true, true⟩) = .instr (.condAddr true) := by decide

/-- PresentedOperationRunsNext, DecodeUndoesEncode, EncodeUndoesDecodeOfFrames: a fall-through row, at an end of its range. -/
theorem witness_wellFormed :
    Instr.wellFormed (.wRwCtlOther true 0x0a#8 false) = true ∧
    encode (.wRwCtlOther true 0x0a#8 false) = .frame 0b001011001000010100#18 ∧
    Instr.wellFormed (.condAddr true) = true := by decide

/-- DecoderPicksTheMatchingRow: a 0x16 write that a row of its own matches. -/
theorem witness_row :
    Instr.frameRow? (.wRwCtlSetAdl true true) = some ⟨0x3fdfe#18, 0x0b010#18⟩ ∧
    FrameRow.fits ⟨0x3fdfe#18, 0x0b010#18⟩ 0b001011001000010001#18 = true := by decide

/-- UnmatchedTransactionsHaveNoAction and the last clauses of ClassifierFollowsTheDecodeMap: the ends of every range. -/
theorem witness_unmatched :
    ([0x0a#8, 0x7f#8, 0x88#8, 0xff#8].all fun v : Byte =>
      decide ((0x0a ≤ v.toNat ∧ v.toNat ≤ 0x7f) ∨ 0x88 ≤ v.toNat)) = true ∧
    (∀ a ∈ [0x03#7, 0x20#7, 0x26#7, 0x7f#7], a ∉ writeAddresses) ∧
    (∀ a ∈ [0x00#7, 0x13#7, 0x21#7, 0x7f#7], a ∉ readAddresses) := by decide

/-- RegisterReadsUpdateTheShadowLane: each of the three updates meets its clause. -/
theorem witness_lanes (low high upper : Session → Session) :
    ∀ p ∈ [(low, Lane.low), (high, Lane.high), (upper, Lane.upper)],
      (p.1 = low ∧ p.2 = .low) ∨ (p.1 = high ∧ p.2 = .high) ∨ (p.1 = upper ∧ p.2 = .upper) := by simp

/-- ClassifierFollowsTheDecodeMap: the ends of the ranges of addresses and of 0x16 values. -/
theorem witness_decodeMap :
    (0x00#7 : Addr).toNat = 4 * (0 : Fin 4).val + laneNumber .low ∧
    (0x0e#7 : Addr).toNat = 4 * (3 : Fin 4).val + laneNumber .upper ∧
    (0x15#7 : Addr).toNat = 0x13 + laneNumber .upper ∧ (0x12#7 : Addr).toNat = 0x10 + laneNumber .upper ∧
    (0x07#8 : Byte).toNat < 8 ∧ (0x80 ≤ (0x80#8 : Byte).toNat ∧ (0x87#8 : Byte).toNat ≤ 0x87) ∧
    (0x25#7 : Addr).toNat + (0 : Fin 5).val = 0x25 ∧ (0x21#7 : Addr).toNat + (4 : Fin 5).val = 0x25 := by decide

/-- EachSessionRegisterHasItsWriters: a step that changes each register. -/
theorem witness_writers :
    classifyFrame 0b001001101001101001#18 0x000000#24 0#3 = some (none, 0x000034#24, 0#3) ∧
    classifyFrame 0b001011001000000111#18 0x000000#24 0#3 = some (some (.rwRead 3#3), 0x000000#24, 3#3) ∧
    readRegister 0b001000011100110011#18 0#3 .low = some (some (.rdReg 0#3 .low 0x99#8), 0x99#8, true) := by decide

/-- TransactionPortPresentsExactlyTheCommits: a step that takes no sample. -/
theorem witness_noSample :
    (∀ x rest, State.reset.input ≠ .sample x :: rest) ∧ step State.reset = .next State.reset :=
  ⟨fun _ _ h => (List.cons_ne_nil _ _ h.symm).elim, rfl⟩

/-- UnreachableStateFreezesTheBlock: each clause. -/
theorem witness_fault :
    ((waiting .addr 7#3 ⟨true, false⟩ ⟨true, true⟩).fault = false ∧
      (waiting .addr 7#3 ⟨true, false⟩ ⟨true, true⟩).phase = .addr ∧
      (waiting .addr 7#3 ⟨true, false⟩ ⟨true, true⟩).bitCnt = 7#3) ∧
    (State.fault { State.reset with fault := true, input := [.rst ⟨false, false⟩] } = true ∧
      after { State.reset with fault := true, input := [.rst ⟨false, false⟩] } (fun t => t.fault) = some false) := by
  decide

/-- ShadowReachesNoOutput: both steps answer a next state. -/
theorem witness_shadow :
    (after (aboutToCommit.supplied ⟨true, true⟩) id).isSome = true ∧
    (after (State.supplied { aboutToCommit with session := { aboutToCommit.session with
      shadow := Vector.replicate 8 ⟨0x01#8, 0x02#8, 0x03#8⟩
      shadowValid := Vector.replicate 8 ⟨true, true, true⟩ } } ⟨true, true⟩) id).isSome = true := by decide

/-- StepKeepsTheInvariant, EmittedWindowsLieInTheFrame: a state in the middle of a run, about to commit. -/
theorem witness_invariant :
    aboutToCommit.Inv ∧ (after (aboutToCommit.supplied ⟨true, true⟩) id).isSome = true :=
  ⟨⟨rfl, rfl, trivial, by decide, by decide, by decide⟩, by decide⟩

/-- TruncatedFrameProducesNothing: a run of two samples that delivers nothing. -/
theorem witness_truncated :
    (runSamples State.reset [⟨true, true⟩, ⟨false, true⟩]).map (fun o => (o.delivered, o.final.phase)) =
      some ([], .addr) := by decide

/-- FrameMacroCommitsItsTransaction: the block waits after data 1 and clock high. -/
theorem witness_macro :
    let s := waiting .awaitStart 0#3 ⟨true, true⟩ ⟨false, true⟩
    s.fault = false ∧ s.phase = .awaitStart ∧ s.prevValid = true ∧ s.prevD = true ∧ s.prevC = true := by decide

end Sys2Proof.Tests
end

/-! PROOFS of the family 30_encoding.md: what the step of a sample does to the two ports and the session registers, the
records of a frame by class, and the statements O39, O42 and O45. -/

namespace Sys2Proof.Machine

/-! ### The records of a frame by class -/

@[simp] theorem bitRecord_cls (start stop : Nat) (cls : RecClass) (b : Bool) :
    (bitRecord start stop cls b).cls = cls := rfl

/-- R228: a value bit is a BIT record with a bit payload; only its window depends on the direction. -/
theorem State.exists_valueBitRecord_eq (s : State) (f : Frame) (k : Fin 8) :
    ∃ start stop, s.valueBitRecord f k = bitRecord start stop .bit (f.value.getLsbD (7 - k)) := by
  cases h : f.dir with
  | read => exact ⟨s.vIdx[k] - 1, s.vIdx[k], by simp only [State.valueBitRecord, h]⟩
  | write => exact ⟨s.vIdx[k], s.vIdx[k] + 1, by simp only [State.valueBitRecord, h]⟩

@[simp] theorem State.addrBitRecord_cls (s : State) (f : Frame) (k : Fin 7) :
    (s.addrBitRecord f k).cls = .bit := rfl

@[simp] theorem State.valueBitRecord_cls (s : State) (f : Frame) (k : Fin 8) :
    (s.valueBitRecord f k).cls = .bit := by
  obtain ⟨start, stop, h⟩ := s.exists_valueBitRecord_eq f k
  rw [h, bitRecord_cls]

@[simp] theorem State.addrBitRecord_payloadFitsClass (s : State) (f : Frame) (k : Fin 7) :
    (s.addrBitRecord f k).payloadFitsClass = true := rfl

@[simp] theorem State.valueBitRecord_payloadFitsClass (s : State) (f : Frame) (k : Fin 8) :
    (s.valueBitRecord f k).payloadFitsClass = true := by
  obtain ⟨start, stop, h⟩ := s.exists_valueBitRecord_eq f k
  rw [h]; rfl

/-- R221 without its two SEPARATOR records. -/
theorem State.frameRecords_filter_ne_separator (s : State) (f : Frame) (act : Option Action) :
    (s.frameRecords f act).filter (fun r => r.cls ≠ .separator) =
      [⟨s.startIdx, s.startIdx + 1, .start, .none⟩]
      ++ (List.finRange 7).map (s.addrBitRecord f)
      ++ [⟨s.aIdx[0], s.dIdx, .register, .addr f.addr⟩, ⟨s.dIdx, s.dIdx + 1, .direction, .dir f.dir⟩]
      ++ (List.finRange 8).map (s.valueBitRecord f)
      ++ [⟨s.vIdx[0], s.idx, .value, .val f.value⟩]
      ++ s.actionRecords act := by
  have haction : (s.actionRecords act).filter (fun r => r.cls ≠ .separator) = s.actionRecords act := by
    cases act <;> rfl
  simp only [State.frameRecords, List.filter_append, haction]
  simp [List.filter_map, Function.comp_def]

/-- R82, R221: every record of a frame carries its class's payload. -/
theorem State.frameRecords_payloadFitsClass (s : State) (f : Frame) (act : Option Action) :
    ∀ r ∈ s.frameRecords f act, r.payloadFitsClass = true := by
  have haction : ∀ r ∈ s.actionRecords act, r.payloadFitsClass = true := by
    cases act <;> simp [Record.payloadFitsClass]
  simp only [State.frameRecords, List.forall_mem_append]
  refine ⟨⟨⟨⟨⟨?start, ?addrBits⟩, ?fields⟩, ?valueBits⟩, ?ending⟩, haction⟩
  case start | fields | ending => simp [Record.payloadFitsClass, bitRecord]
  case addrBits | valueBits => simp

/-! ### Which samples commit -/

theorem State.commits_eq_true_iff (s : State) (x : Sample) :
    s.commits x = true ↔ s.fault = false ∧ s.phase = .sep2 ∧ s.rises .clock x = true := by
  simp [State.commits, and_assoc]

/-- R75, R76: the pattern of the SEP2 row is the rise of the clock. -/
theorem condRow_sep2_fits (prevValid p q d c : Bool) :
    (condRow .sep2).fits prevValid (packCond p q d c) = rise prevValid q c := by
  revert prevValid p q d c; decide

/-- In SEP2 a clock rise is decoded as the operation that commits. -/
theorem decode_codeWord_of_commits {s : State} {x : Sample} (h : s.commits x = true) :
    decode (s.codeWord x) = .instr (.condSep2 x.d) := by
  obtain ⟨-, hphase, hrise⟩ := (s.commits_eq_true_iff x).mp h
  have hfits : (condRow .sep2).fits s.prevValid (packCond s.prevD s.prevC x.d x.c) = true :=
    (condRow_sep2_fits ..).trans hrise
  simp [State.codeWord, hphase, decode, decodeCond, hfits, condInstr]

/-- A sample that commits commits the captured frame, classified against the session as it stands (R138 to R140). -/
theorem takeSample_of_commits {s : State} {x : Sample} (h : s.commits x = true) :
    s.takeSample x = .next
      ((s.commit (s.frame x.d) (classify (s.transaction (s.frame x.d)) s.session)).advance x) := by
  obtain ⟨hfault, hphase, -⟩ := (s.commits_eq_true_iff x).mp h
  have hreach : s.unreachable = false := by simp [State.unreachable, hphase]
  simp [State.takeSample, State.runPhase, hfault, hreach, decode_codeWord_of_commits h, exec_condSep2]

/-! ### The samples that do not commit -/

/-- Neither port and no session register differs. -/
structure SameOutputs (s t : State) : Prop where
  txPort : t.txPort = s.txPort
  recPort : t.recPort = s.recPort
  session : t.session = s.session

/-- The operation of every phase but SEP2 answers a next state and leaves the ports and the session alone (R147, R222). -/
theorem exec_condInstr_sameOutputs {p : Phase} (hp : p ≠ .sep2) (d : Bool) (s : State) :
    ∃ t, exec (condInstr p d) s = .next t ∧ SameOutputs s t := by
  cases p with
  | awaitStart => exact ⟨_, exec_condAwaitStart s, rfl, rfl, rfl⟩
  | addr =>
    by_cases hcnt : s.bitCnt = 7#3
    · exact ⟨s.raiseFault, by simp [condInstr, exec, execCondAddr, hcnt], rfl, rfl, rfl⟩
    · exact ⟨_, exec_condAddr d s hcnt, by simp, by simp, by simp⟩
  | dir => exact ⟨_, exec_condDir d s, rfl, rfl, rfl⟩
  | sep1 => exact ⟨_, exec_condSep1 d s, rfl, rfl, rfl⟩
  | valW => exact ⟨_, exec_condValW d s, by simp, by simp, by simp⟩
  | valRFall => exact ⟨_, exec_condValRFall s, rfl, rfl, rfl⟩
  | valRSkip => exact ⟨_, exec_condValRSkip d s, by simp, by simp, by simp⟩
  | sep2 => exact absurd rfl hp

/-- The operation of every phase answers a next state: the block has no stops (R250). -/
theorem exec_condInstr_total (p : Phase) (d : Bool) (s : State) : ∃ t, exec (condInstr p d) s = .next t := by
  by_cases hp : p = .sep2
  · subst hp; exact ⟨_, exec_condSep2 d s⟩
  · obtain ⟨t, ht, -⟩ := exec_condInstr_sameOutputs hp d s
    exact ⟨t, ht⟩

/-- The step of a sample always answers a next state (R250). -/
theorem takeSample_total (s : State) (x : Sample) : ∃ t, s.takeSample x = .next t := by
  have hrun : ∃ u, s.runPhase x = .next u := by
    unfold State.runPhase
    split
    · exact ⟨_, rfl⟩
    · split
      · exact ⟨_, rfl⟩
      · split
        · next i hi =>
          obtain ⟨rfl, -⟩ := decode_codeWord_eq_instr hi
          exact exec_condInstr_total s.phase x.d s
        · exact ⟨_, rfl⟩
  obtain ⟨u, hu⟩ := hrun
  exact ⟨u.advance x, onNext_eq_next.mpr ⟨u, hu, rfl⟩⟩

/-- Where a sample is decoded and does not commit, the phase is not SEP2. -/
theorem phase_ne_sep2_of_not_commits {s : State} {x : Sample} {i : Instr} (h : s.commits x = false)
    (hfault : s.fault = false) (hi : decode (s.codeWord x) = .instr i) : s.phase ≠ .sep2 := by
  intro hphase
  obtain ⟨-, hfits⟩ := decode_codeWord_eq_instr hi
  rw [hphase, condRow_sep2_fits] at hfits
  have hcommits : s.commits x = true := (s.commits_eq_true_iff x).mpr ⟨hfault, hphase, hfits⟩
  rw [h] at hcommits
  cases hcommits

/-- R83, R147, R222: a sample that does not commit changes neither the ports nor the session. -/
theorem takeSample_sameOutputs_of_not_commits {s t : State} {x : Sample} (h : s.commits x = false)
    (ht : s.takeSample x = .next t) : SameOutputs s t := by
  obtain ⟨-, rfl⟩ | ⟨-, -, rfl⟩ | ⟨-, -, -, rfl⟩ | ⟨hfault, -, i, u, hi, hu, rfl⟩ := takeSample_cases ht
  · exact ⟨rfl, rfl, rfl⟩
  · exact ⟨rfl, rfl, rfl⟩
  · exact ⟨rfl, rfl, rfl⟩
  · obtain ⟨v, hv, hsame⟩ := exec_condInstr_sameOutputs (phase_ne_sep2_of_not_commits h hfault hi) x.d s
    obtain ⟨rfl, -⟩ := decode_codeWord_eq_instr hi
    obtain rfl : v = u := by rw [hv] at hu; injection hu
    exact ⟨hsame.txPort, hsame.recPort, hsame.session⟩

/-! ### The statements -/

/-- Settles O39: a transaction has no separator, so both commits classify alike, and outside the two SEPARATOR records
the list of R221 reads none. -/
theorem separatorsReachOnlyTheirRecords : Obligations.SeparatorsReachOnlyTheirRecords := by
  refine ⟨fun s d e => ⟨_, exec_condSep1 d s, exec_condSep1 e s⟩, fun s b d e => ?_⟩
  refine ⟨_, _, exec_condSep2 d s, exec_condSep2 e { s with sep1 := b }, rfl, ?records⟩
  simp only [State.commit_recPort, State.frameRecords_filter_ne_separator]
  rfl

/-- Settles O42: a sample's step by whether it commits, any other step by its event. -/
theorem transactionPortPresentsExactlyTheCommits : Obligations.TransactionPortPresentsExactlyTheCommits := by
  refine ⟨fun s x => ?sample, fun s t hno h => ?noSample⟩
  case sample =>
    rw [step_supplied]
    cases hc : s.commits x with
    | true => exact ⟨_, takeSample_of_commits (s := s.quiet) hc, rfl⟩
    | false =>
      obtain ⟨t, ht⟩ := takeSample_total s.quiet x
      exact ⟨t, ht, (takeSample_sameOutputs_of_not_commits (s := s.quiet) hc ht).txPort⟩
  case noSample =>
    obtain ⟨-, rfl⟩ | ⟨x, rest, -, rfl⟩ | ⟨r, rest, -, -, -, rfl⟩ | ⟨x, rest, hinput, -⟩ := step_cases h
    · rfl
    · rfl
    · rfl
    · exact absurd hinput (hno x rest)

/-- Settles O45: the two tables class by class, the payloads by `State.frameRecords_payloadFitsClass`. -/
theorem recordClassesAndRows : Obligations.RecordClassesAndRows := by
  refine ⟨rfl, fun c => ?_, State.frameRecords_payloadFitsClass⟩
  cases c <;> decide

end Sys2Proof.Machine

/-! PROOFS of the family 40_scanner.md: the edge and level predicates, the frame of the edge detector, the agreement of
each phase's pattern with its condition, and the statements O5 to O8. -/

namespace Sys2Proof.Machine

/-! ### The predicates -/

theorem rise_eq_true_iff (prevValid prev cur : Bool) :
    rise prevValid prev cur = true ↔ prevValid = true ∧ prev = false ∧ cur = true := by
  simp [rise, and_assoc]

theorem fall_eq_true_iff (prevValid prev cur : Bool) :
    fall prevValid prev cur = true ↔ prevValid = true ∧ prev = true ∧ cur = false := by
  simp [fall, and_assoc]

theorem high_eq_true_iff (cur : Bool) : high cur = true ↔ cur = true := Iff.rfl

theorem low_eq_true_iff (cur : Bool) : low cur = true ↔ cur = false := by simp [low]

/-- R105: without a previous sample no channel rises. -/
@[simp] theorem rise_of_no_previous (prev cur : Bool) : rise false prev cur = false := rfl

/-- R105: without a previous sample no channel falls. -/
@[simp] theorem fall_of_no_previous (prev cur : Bool) : fall false prev cur = false := rfl

/-! ### What no phase touches -/

/-- The sample index, the host's supply and the sample rate are the same: what the step moves, and no phase. -/
structure SameSupply (s t : State) : Prop where
  idx : t.idx = s.idx
  input : t.input = s.input
  sampleRate : t.sampleRate = s.sampleRate

/-- R148: the operation of a phase leaves the index, the supply and the sample rate to the step. -/
theorem sameSupply_of_exec_condInstr {p : Phase} {d : Bool} {s t : State}
    (h : exec (condInstr p d) s = .next t) : SameSupply s t := by
  cases p with
  | awaitStart => cases h; exact ⟨rfl, rfl, rfl⟩
  | addr =>
    by_cases hcnt : s.bitCnt = 7#3
    · obtain rfl : s.raiseFault = t := by simpa [condInstr, exec, execCondAddr, hcnt] using h
      exact ⟨rfl, rfl, rfl⟩
    · cases (exec_condAddr d s hcnt).symm.trans h
      exact ⟨by simp, by simp, by simp⟩
  | dir => cases h; exact ⟨rfl, rfl, rfl⟩
  | sep1 => cases h; exact ⟨rfl, rfl, rfl⟩
  | valW => cases (exec_condValW d s).symm.trans h; exact ⟨by simp, by simp, by simp⟩
  | valRFall => cases h; exact ⟨rfl, rfl, rfl⟩
  | valRSkip => cases (exec_condValRSkip d s).symm.trans h; exact ⟨by simp, by simp, by simp⟩
  | sep2 => cases h; exact ⟨rfl, rfl, rfl⟩

/-- R106, R148: whatever the phase does, the step of a sample ends with the edge detector's update of a state whose
index, supply and sample rate are those it began with. -/
theorem exists_takeSample_eq_advance (s : State) (x : Sample) :
    ∃ u, s.takeSample x = .next (u.advance x) ∧ SameSupply s u := by
  obtain ⟨t, ht⟩ := takeSample_total s x
  obtain ⟨-, rfl⟩ | ⟨-, -, rfl⟩ | ⟨-, -, -, rfl⟩ | ⟨-, -, i, u, hi, hu, rfl⟩ := takeSample_cases ht
  · exact ⟨s, ht, rfl, rfl, rfl⟩
  · exact ⟨s.raiseFault, ht, rfl, rfl, rfl⟩
  · exact ⟨s, ht, rfl, rfl, rfl⟩
  · obtain ⟨rfl, -⟩ := decode_codeWord_eq_instr hi
    exact ⟨u, ht, sameSupply_of_exec_condInstr hu⟩

/-! ### The patterns and the conditions -/

/-- R75, R76: the pattern `1x01` of AWAIT_START is the start condition, the data line falling with the clock high. -/
theorem condRow_awaitStart_fits (prevValid p q d c : Bool) :
    (condRow .awaitStart).fits prevValid (packCond p q d c) = (fall prevValid p d && high c) := by
  revert prevValid p q d c; decide

/-- R75, R76: the pattern `x1x0` of VAL_R_FALL is the fall of the clock. -/
theorem condRow_valRFall_fits (prevValid p q d c : Bool) :
    (condRow .valRFall).fits prevValid (packCond p q d c) = fall prevValid q c := by
  revert prevValid p q d c; decide

/-- R76: VAL_R_SKIP has no pattern and fits every sample. -/
theorem condRow_valRSkip_fits (prevValid : Bool) (w : CondWord) : (condRow .valRSkip).fits prevValid w = true := by
  simp [condRow, CondPattern.fits]

/-- The condition of one constraint is that constraint (R75). -/
theorem specHolds_singleton (ch : Channel) (k : Constraint) (prevValid : Bool) (prev cur : Sample) (elapsed : Nat) :
    specHolds (.constraints [(ch, k)]) prevValid prev cur elapsed =
      constraintHolds k prevValid (prev.on ch) (cur.on ch) := by
  simp [specHolds]

/-- R75, R76, R100: the pattern of a phase fits a sample exactly when the phase's condition holds on it. The five phases
that wait for a clock rise share the pattern of SEP2. -/
theorem condRow_fits_eq_conditionHolds (s : State) (x : Sample) :
    (condRow s.phase).fits s.prevValid (packCond s.prevD s.prevC x.d x.c) = s.conditionHolds x := by
  unfold State.conditionHolds
  cases s.phase with
  | awaitStart =>
    rw [condRow_awaitStart_fits]
    simp [conditionTable, specHolds, constraintHolds]
  | addr | dir | sep1 | valW | sep2 =>
    exact (condRow_sep2_fits ..).trans (specHolds_singleton .clock .rising s.prevValid s.prev x 1).symm
  | valRFall =>
    exact (condRow_valRFall_fits ..).trans (specHolds_singleton .clock .falling s.prevValid s.prev x 1).symm
  | valRSkip => exact condRow_valRSkip_fits ..

/-- A sample that meets its phase's condition is decoded as the phase's operation with the sampled bit. -/
theorem decode_codeWord_of_conditionHolds {s : State} {x : Sample} (h : s.conditionHolds x = true) :
    decode (s.codeWord x) = .instr (condInstr s.phase x.d) := by
  rw [← condRow_fits_eq_conditionHolds] at h
  simp [State.codeWord, decode, decodeCond, h]

/-- A sample that does not meet its phase's condition is rejected by the decoder. -/
theorem decode_codeWord_of_not_conditionHolds {s : State} {x : Sample} (h : s.conditionHolds x = false) :
    ∃ e, decode (s.codeWord x) = .reject e := by
  cases hdec : decode (s.codeWord x) with
  | reject e => exact ⟨e, rfl⟩
  | instr i =>
    obtain ⟨-, hfits⟩ := decode_codeWord_eq_instr hdec
    rw [condRow_fits_eq_conditionHolds, h] at hfits
    cases hfits

/-- R100: with no fault set and none to raise, the phase runs its operation or discards the sample. -/
theorem runPhase_eq_ite_conditionHolds {s : State} (x : Sample) (hfault : s.fault = false)
    (hreach : s.unreachable = false) :
    s.runPhase x = if s.conditionHolds x then exec (condInstr s.phase x.d) s else .next s := by
  cases hcond : s.conditionHolds x with
  | true => simp [State.runPhase, hfault, hreach, decode_codeWord_of_conditionHolds hcond]
  | false =>
    obtain ⟨e, he⟩ := decode_codeWord_of_not_conditionHolds hcond
    simp [State.runPhase, hfault, hreach, he]

/-! ### The statements -/

/-- Settles O5: R101 to R103 by the equivalence of each predicate; the scanner's constraints are the predicates. -/
theorem edgeAndLevelPredicates : Obligations.EdgeAndLevelPredicates := by
  intro s x ch
  exact ⟨rise_eq_true_iff .., fall_eq_true_iff .., high_eq_true_iff _, low_eq_true_iff _, rfl, rfl, rfl, rfl⟩

/-- Settles O7: the step of a sample ends with the edge detector's update, before which no phase moved the index, the
supply or the sample rate. -/
theorem everySampleMovesTheEdgeDetector : Obligations.EverySampleMovesTheEdgeDetector := by
  intro s x
  obtain ⟨u, hstep, hsame⟩ := exists_takeSample_eq_advance s.quiet x
  exact ⟨u.advance x, hstep, rfl, rfl, rfl, congrArg (· + 1) hsame.idx, hsame.input, hsame.sampleRate⟩

/-- Settles O6: an edge needs a previous sample and a level does not; the last clause is part of O7. -/
theorem firstSampleHasNoEdge : Obligations.FirstSampleHasNoEdge := by
  refine ⟨fun s x ch hfirst => ?noEdge, rfl, fun s x => ?anySample⟩
  case noEdge =>
    exact ⟨by simp [State.rises, hfirst], by simp [State.falls, hfirst], rfl, rfl⟩
  case anySample =>
    obtain ⟨t, hstep, -, -, hvalid, -⟩ := everySampleMovesTheEdgeDetector s x
    exact ⟨t, hstep, hvalid⟩

/-- Settles O8: the step of a sample is its phase's run and then the edge detector's update. -/
theorem sampleRunsItsPhaseOrIsDiscarded : Obligations.SampleRunsItsPhaseOrIsDiscarded := by
  intro s x hfault hreach
  have hrun : s.quiet.runPhase x =
      if s.conditionHolds x then exec (condInstr s.phase x.d) s.quiet else .next s.quiet :=
    runPhase_eq_ite_conditionHolds (s := s.quiet) x hfault hreach
  rw [step_supplied, State.takeSample, hrun]
  cases s.conditionHolds x <;> rfl

end Sys2Proof.Machine

/-! PROOFS of the family 41_frame_assembler.md: each phase waits for its condition, what each phase's operation writes,
the transition table, and what the commit of each classifier row does: the statements O12 to O21, O23 and O31 to O37. -/

namespace Sys2Proof.Machine

/-! ### The phases wait for their conditions -/

/-- R100: a phase waits for its row of the condition table and runs its operation. -/
theorem phaseWaitsFor_of_spec {p : Phase} {cond : State → Sample → Bool}
    (hcond : ∀ (s : State) (x : Sample), specHolds (conditionTable p) s.prevValid s.prev x 1 = cond s x) :
    PhaseWaitsFor p cond (condInstr p) := by
  intro s x hfault hreach hphase
  have hholds : s.conditionHolds x = cond s x := by rw [State.conditionHolds, hphase, hcond]
  rw [sampleRunsItsPhaseOrIsDiscarded s x hfault hreach, hholds, hphase]

/-- R76, R101: the five phases that wait for a clock rise. -/
theorem phaseWaitsFor_clockRise {p : Phase} (hrow : conditionTable p = .constraints [(.clock, .rising)]) :
    PhaseWaitsFor p (fun s x => s.rises .clock x) (condInstr p) :=
  phaseWaitsFor_of_spec fun s x => by rw [hrow, specHolds_singleton]; rfl

/-! ### Bits of the multi-bit fields -/

/-- R130: what a counted bit writes, as one update. -/
theorem State.countBit_eq (s : State) (last : BitVec 3) (more done : Phase) :
    s.countBit last more done = { s with
      bitCnt := if s.bitCnt = last then 0#3 else s.bitCnt + 1#3
      phase := if s.bitCnt = last then done else more } := by
  unfold State.countBit; split <;> rfl

/-- R25: below 7 the bit count grows without wrapping. -/
theorem toNat_bitCnt_add_one {c : BitVec 3} (h : c ≠ 7#3) : (c + 1#3).toNat = c.toNat + 1 := by bv_omega

/-- R135, R137: what a value bit writes; the Write and the Read direction differ in the phase of the next bit only. -/
theorem takeValueBit_countBit_spec (d : Bool) (s : State) (more : Phase) {t : State}
    (ht : t = (s.takeValueBit d).countBit 7#3 more .sep2) :
    t.value.toNat = (2 * s.value.toNat + d.toNat) % 256 ∧
    (∀ k : Fin 8, t.vIdx[k] = if k.val = s.bitCnt.toNat then s.idx else s.vIdx[k]) ∧
    (s.bitCnt = 7#3 → t.bitCnt = 0#3 ∧ t.phase = .sep2) ∧
    (s.bitCnt ≠ 7#3 → t.bitCnt.toNat = s.bitCnt.toNat + 1 ∧ t.phase = more) ∧
    t = { s with value := t.value, vIdx := t.vIdx, bitCnt := t.bitCnt, phase := t.phase } := by
  rw [State.countBit_eq] at ht
  subst ht
  refine ⟨shiftIn_toNat s.value d, fun k => putIdx_get s.vIdx _ _ k, fun hlast => ?lastBit, fun hmore => ?nextBit, rfl⟩
  case lastBit => simp [hlast]
  case nextBit => simp [hmore, toNat_bitCnt_add_one hmore]

/-- R130: away from the unreachable state, the operation of a phase moves the phase and the bit count along the
transition table. -/
theorem exec_condInstr_transition (p : Phase) (d : Bool) (s : State) (hcnt : p = .addr → s.bitCnt ≠ 7#3) :
    ∃ t, exec (condInstr p d) s = .next t ∧ (t.phase, t.bitCnt) = transition p s.bitCnt s.dir := by
  cases p with
  | awaitStart => exact ⟨_, exec_condAwaitStart s, rfl⟩
  | addr =>
    refine ⟨_, exec_condAddr d s (hcnt rfl), ?_⟩
    by_cases hlast : s.bitCnt = 6#3 <;> simp [transition, hlast]
  | dir => exact ⟨_, exec_condDir d s, rfl⟩
  | sep1 => exact ⟨_, exec_condSep1 d s, rfl⟩
  | valW =>
    refine ⟨_, exec_condValW d s, ?_⟩
    by_cases hlast : s.bitCnt = 7#3 <;> simp [transition, hlast]
  | valRFall => exact ⟨_, exec_condValRFall s, rfl⟩
  | valRSkip =>
    refine ⟨_, exec_condValRSkip d s, ?_⟩
    by_cases hlast : s.bitCnt = 7#3 <;> simp [transition, hlast]
  | sep2 => exact ⟨_, exec_condSep2 d s, rfl⟩

/-- R253: outside the unreachable state ADDR does not hold the count 7. -/
theorem bitCnt_ne_seven_of_reachable {s : State} (hreach : s.unreachable = false) (hphase : s.phase = .addr) :
    s.bitCnt ≠ 7#3 := by
  simpa [State.unreachable, hphase] using hreach

/-! ### The phases, O12 to O23 -/

/-- Settles O12: the condition is the data fall and the clock level, in the order of the table. -/
theorem startConditionOpensAFrame : Obligations.StartConditionOpensAFrame :=
  ⟨exec_condAwaitStart, phaseWaitsFor_of_spec fun s x => by
    simp [conditionTable, specHolds, constraintHolds, State.falls]⟩

/-- Settles O13: the shift and the capture index are those of the shared operations; with the count 7 left out, the
count below 6 does not wrap. -/
theorem addressBitIsShiftedIn : Obligations.AddressBitIsShiftedIn := by
  refine ⟨fun d s hreach => ?bit, phaseWaitsFor_clockRise rfl⟩
  refine ⟨_, exec_condAddr d s hreach, ?_⟩
  rw [State.countBit_eq]
  refine ⟨shiftIn_toNat s.addr d, fun k => putIdx_get s.aIdx _ _ k, fun hlast => ?lastBit, fun hmore => ?nextBit, rfl⟩
  case lastBit => simp [hlast]
  case nextBit => simp [hmore, toNat_bitCnt_add_one hreach]

/-- Settles O14: one update, run on a clock rise. -/
theorem directionBitIsLatched : Obligations.DirectionBitIsLatched :=
  ⟨exec_condDir, phaseWaitsFor_clockRise rfl⟩

/-- Settles O15: one update, run on a clock rise; the direction it reads is the one latched before. -/
theorem separatorOneSelectsTheValueTiming : Obligations.SeparatorOneSelectsTheValueTiming :=
  ⟨exec_condSep1, phaseWaitsFor_clockRise rfl⟩

/-- Settles O16: a value bit whose next bit waits in VAL_W. -/
theorem writeValueBitIsShiftedIn : Obligations.WriteValueBitIsShiftedIn :=
  ⟨fun d s => ⟨_, exec_condValW d s, takeValueBit_countBit_spec d s .valW rfl⟩, phaseWaitsFor_clockRise rfl⟩

/-- Settles O17: the phase alone moves, on a clock fall. -/
theorem readValueBitAwaitsTheFall : Obligations.ReadValueBitAwaitsTheFall :=
  ⟨exec_condValRFall, phaseWaitsFor_of_spec fun s x => specHolds_singleton .clock .falling s.prevValid s.prev x 1⟩

/-- Settles O18: a value bit whose next bit waits in VAL_R_FALL; `skip 1` holds on the first sample after the fall. -/
theorem readValueBitIsShiftedInAfterTheSkip : Obligations.ReadValueBitIsShiftedInAfterTheSkip :=
  ⟨fun d s => ⟨_, exec_condValRSkip d s, takeValueBit_countBit_spec d s .valRFall rfl⟩,
    phaseWaitsFor_of_spec fun _ _ => rfl⟩

/-- Settles O19: the transaction is that of the captured frame. -/
theorem separatorTwoCommitsTheFrame : Obligations.SeparatorTwoCommitsTheFrame :=
  ⟨exec_condSep2, phaseWaitsFor_clockRise rfl⟩

/-- Settles O20: the table by `exec_condInstr_transition`, and a discarded sample moves neither register. -/
theorem phaseMovesAlongTheTransitionTable : Obligations.PhaseMovesAlongTheTransitionTable := by
  intro s x hfault hreach
  rw [sampleRunsItsPhaseOrIsDiscarded s x hfault hreach]
  cases s.conditionHolds x with
  | true =>
    obtain ⟨t, ht, hmove⟩ :=
      exec_condInstr_transition s.phase x.d s.quiet (bitCnt_ne_seven_of_reachable hreach)
    exact ⟨t.advance x, by simp [ht], hmove⟩
  | false => exact ⟨s.quiet.advance x, rfl, rfl⟩

/-- Settles O21: the commit enters AWAIT_START; from there a frozen or discarded step stays, and the operation that runs
is O12's. -/
theorem everyFrameNeedsItsOwnStart : Obligations.EveryFrameNeedsItsOwnStart := by
  intro s t x hstep
  rw [step_supplied] at hstep
  refine ⟨fun hcommits => ?commit, fun hphase hleaves => ?leave⟩
  case commit =>
    cases (takeSample_of_commits (s := s.quiet) hcommits).symm.trans hstep
    rfl
  case leave =>
    have hreach : s.unreachable = false := by simp [State.unreachable, hphase]
    cases hfault : s.fault with
    | true =>
      obtain rfl : s.quiet.advance x = t := by
        simpa [State.takeSample, State.runPhase, hfault] using hstep
      exact absurd hphase hleaves
    | false =>
      rw [← step_supplied, startConditionOpensAFrame.2 s x hfault hreach hphase] at hstep
      split at hstep
      · next hcond =>
        cases hstep
        obtain ⟨hfall, hclock⟩ := Bool.and_eq_true_iff.mp hcond
        exact ⟨hfall, hclock, rfl⟩
      · cases hstep
        exact absurd hphase hleaves

/-- Settles O23: the other phases keep the session with the ports, and the commit takes the classifier's. -/
theorem phasesKeepTheSession : Obligations.PhasesKeepTheSession := by
  refine ⟨fun p d s t hp ht => ?keeps, fun d s t ht => ?commit⟩
  case keeps =>
    obtain ⟨u, hu, hsame⟩ := exec_condInstr_sameOutputs hp d s
    cases hu.symm.trans ht
    exact hsame.session
  case commit =>
    cases (exec_condSep2 d s).symm.trans ht
    rfl

/-! ### The commit of a classifier row -/

/-- R138 to R140: an operation that commits a frame with a classification of the session does all that `CommitsAs`
says. -/
theorem commitsAs_of_commit {i : Instr} {f : Frame} {act : Session → Option Action} {text : Session → Option String}
    {ses' : Session → Session}
    (hencode : encode i = .frame (packFrame f.addr (directionBit f.dir) f.sep1 f.value f.sep2))
    (hexec : ∀ s : State, exec i s = .next (s.commit f ⟨act s.session, ses' s.session⟩))
    (htext : ∀ ses : Session, (act ses).map actionLong = text ses) : CommitsAs i f act text ses' :=
  ⟨hencode, fun s => ⟨htext s.session, hexec s⟩⟩

/-- A row that displays one action, the same for every session, and keeps the session. -/
theorem commitsAs_of_display {i : Instr} {f : Frame} {a : Action} {text : String}
    (hencode : encode i = .frame (packFrame f.addr (directionBit f.dir) f.sep1 f.value f.sep2))
    (hexec : ∀ s : State, exec i s = .next (s.commit f (display a s.session)))
    (htext : actionLong a = text) : CommitsAs i f (fun _ => some a) (fun _ => some text) id :=
  commitsAs_of_commit hencode hexec fun _ => congrArg some htext

/-- A row without action. -/
theorem commitsAs_of_silent {i : Instr} {f : Frame} {ses' : Session → Session}
    (hencode : encode i = .frame (packFrame f.addr (directionBit f.dir) f.sep1 f.value f.sep2))
    (hexec : ∀ s : State, exec i s = .next (s.commit f (silent (ses' s.session)))) :
    CommitsAs i f (fun _ => none) (fun _ => none) ses' :=
  commitsAs_of_commit hencode hexec fun _ => rfl

/-! ### The texts of the displayed lanes (R233) -/

theorem actionLong_addrReg {n : Fin 4} {lane : Lane} {label : String}
    (hlabel : "ADDR" ++ toString n.val ++ "_" ++ laneName lane ++ " = " = label) (v : Byte) :
    actionLong (.addrReg n lane v) = label ++ hex v.toNat :=
  congrArg (· ++ hex v.toNat) hlabel

theorem actionLong_is {k : Fin 5} {label : String} (hlabel : "IS" ++ toString k.val ++ " = " = label) (v : Byte) :
    actionLong (.is k v) = label ++ hex v.toNat :=
  congrArg (· ++ hex v.toNat) hlabel

theorem actionLong_rdReg {lane : Lane} {label : String} (hlabel : "_" ++ laneName lane ++ " = " = label)
    (r : RegIdx) (v : Byte) : actionLong (.rdReg r lane v) = regName r ++ label ++ hex v.toNat := by
  simp only [actionLong, ← hlabel, String.append_assoc]

/-! ### The operands of the control writes -/

/-- R53: the accumulator made of three bytes, bit by bit. -/
theorem append_lanes_getLsbD (u h l : Byte) (i : Nat) :
    (u ++ h ++ l : Acc).getLsbD i =
      if i < 8 then l.getLsbD i else if i - 8 < 8 then h.getLsbD (i - 8) else u.getLsbD (i - 8 - 8) :=
  (BitVec.getLsbD_append (x := u ++ h)).trans (by rw [BitVec.getLsbD_append])

/-- R185: lane L of the accumulator is its last byte. -/
theorem insertLane_low_eq (a : Acc) (v : Byte) :
    insertLane .low a v = a.extractLsb' 16 8 ++ a.extractLsb' 8 8 ++ v := by
  apply BitVec.eq_of_getLsbD_eq
  intro i hi
  rw [insertLane_low_getLsbD a v hi, append_lanes_getLsbD]
  interval_cases i <;> simp

/-- R186: lane H of the accumulator is its middle byte. -/
theorem insertLane_high_eq (a : Acc) (v : Byte) :
    insertLane .high a v = a.extractLsb' 16 8 ++ v ++ a.extractLsb' 0 8 := by
  apply BitVec.eq_of_getLsbD_eq
  intro i hi
  rw [insertLane_high_getLsbD a v hi, append_lanes_getLsbD]
  interval_cases i <;> simp

/-- R187: lane U of the accumulator is its first byte. -/
theorem insertLane_upper_eq (a : Acc) (v : Byte) :
    insertLane .upper a v = v ++ a.extractLsb' 8 8 ++ a.extractLsb' 0 8 := by
  apply BitVec.eq_of_getLsbD_eq
  intro i hi
  rw [insertLane_upper_getLsbD a v hi, append_lanes_getLsbD]
  interval_cases i <;> simp

/-- R188: the value of a select is the register's index. -/
theorem rwCtlValue_read (r : RegIdx) : rwCtlValue 0b00000#5 r = BitVec.ofNat 8 r.toNat := by
  revert r; decide

/-- R191: the value of a write dispatch is 0x80 and the register's index. -/
theorem rwCtlValue_write (r : RegIdx) : rwCtlValue 0b10000#5 r = BitVec.ofNat 8 (0x80 + r.toNat) := by
  revert r; decide

/-! ### The classifier rows, O31 to O37 -/

/-- Settles O31: twelve rows that display a lane of a breakpoint address. -/
theorem addressWritesDisplayTheirLane : Obligations.AddressWritesDisplayTheirLane := by
  intro sep1 v sep2
  refine ⟨?_, ?_, ?_, ?_, ?_, ?_, ?_, ?_, ?_, ?_, ?_, ?_⟩
  all_goals exact commitsAs_of_display rfl (fun _ => rfl) (actionLong_addrReg (by decide) v)

/-- Settles O32: three rows that display their value. -/
theorem breakpointStatusAndMemoryAreDisplayed : Obligations.BreakpointStatusAndMemoryAreDisplayed := by
  intro sep1 v sep2
  refine ⟨?brkCtl, ?stat, ?rdMem⟩
  all_goals exact commitsAs_of_display rfl (fun _ => rfl) rfl

/-- Settles O33: the masked OR of each lane is the concatenation with that byte replaced. -/
theorem accumulatorWritesReplaceOneLane : Obligations.AccumulatorWritesReplaceOneLane := by
  intro sep1 v sep2
  simp only [← insertLane_low_eq, ← insertLane_high_eq, ← insertLane_upper_eq]
  refine ⟨?low, ?high, ?upper⟩
  all_goals exact commitsAs_of_silent rfl fun _ => rfl

/-- Settles O34: the values of the two rows with an index are `rwCtlValue`; the select and the write dispatch classify
against the session at the start of the step. -/
theorem readWriteControlDispatches : Obligations.ReadWriteControlDispatches := by
  intro sep1 r sep2
  rw [← rwCtlValue_read, ← rwCtlValue_write]
  refine ⟨?select, ?setAdl, ?resetAdl, ?write⟩
  case setAdl | resetAdl => exact commitsAs_of_display rfl (fun _ => rfl) rfl
  case select | write => exact commitsAs_of_commit rfl (fun _ => rfl) fun _ => rfl

/-- Settles O35: the fall-through rows classify nothing, and a frame without action has R221's 21 records. -/
theorem unmatchedTransactionsHaveNoAction : Obligations.UnmatchedTransactionsHaveNoAction := by
  intro a sep1 v sep2
  refine ⟨fun _ => ?rwCtlOther, fun _ => ?wUnmatched, fun _ => ?rUnmatched, fun s => ?records⟩
  case rwCtlOther | wUnmatched | rUnmatched => exact commitsAs_of_silent rfl fun _ => rfl
  case records => exact ⟨s.frameRecords_length _ none, s.frameRecords_length _ none⟩

/-- Settles O36: five rows that display an instruction store register. -/
theorem instructionStoreWritesAreDisplayed : Obligations.InstructionStoreWritesAreDisplayed := by
  intro sep1 v sep2
  refine ⟨?is4, ?is3, ?is2, ?is1, ?is0⟩
  all_goals exact commitsAs_of_display rfl (fun _ => rfl) (actionLong_is (by decide) v)

/-- R200 to R202: an observation writes one lane of the selected register and its valid bit, and nothing else. -/
theorem Session.observe_spec (ses : Session) (l : Lane) (v : Byte) :
    (ses.observe l v).acc = ses.acc ∧ (ses.observe l v).sel = ses.sel ∧
    ∀ (r : RegIdx) (m : Lane),
      (ses.observe l v).shadowAt r m = (if r = ses.sel ∧ m = l then v else ses.shadowAt r m) ∧
      (ses.observe l v).validAt r m = (if r = ses.sel ∧ m = l then true else ses.validAt r m) :=
  ⟨rfl, rfl, fun r m => ⟨ses.shadowAt_observe l v r m, ses.validAt_observe l v r m⟩⟩

/-- Settles O37: the update of each row is the observation of its lane. -/
theorem registerReadsUpdateTheShadowLane : Obligations.RegisterReadsUpdateTheShadowLane := by
  intro sep1 v sep2
  refine ⟨(·.observe .low v), (·.observe .high v), (·.observe .upper v), ?low, ?high, ?upper, ?updates⟩
  case low | high | upper =>
    exact commitsAs_of_commit rfl (fun _ => rfl) fun ses => congrArg some (actionLong_rdReg (by decide) ses.sel v)
  case updates =>
    rintro upd l (⟨rfl, rfl⟩ | ⟨rfl, rfl⟩ | ⟨rfl, rfl⟩) ses
    all_goals exact ses.observe_spec _ v

end Sys2Proof.Machine

/-! PROOFS of the family 42_classifier.md: the register names, the texts of a record by its payload, and the statement
O59. -/

namespace Sys2Proof.Machine

/-- R205: the names of all eight registers; only the name of register 0 is open. -/
theorem map_regName_finRange :
    (List.finRange 8).map (fun r => regName (BitVec.ofFin r)) =
      [Config.reg0Name, "BC", "DE", "HL", "IX", "IY", "SP", "PC"] := rfl

/-- R238: the texts of a record are those of its payload, whatever its window and class (log entry 19). -/
theorem Record.texts_eq (start stop : Nat) (cls : RecClass) (p : Payload) :
    (Record.mk start stop cls p).texts = (payloadLong p, payloadShort p) := rfl

/-- R233: a record that carries an action has the two texts of the action. -/
theorem Record.texts_act (start stop : Nat) (cls : RecClass) (act : Action) :
    (Record.mk start stop cls (.act act)).texts = (actionLong act, actionShort act) :=
  texts_eq start stop cls (.act act)

/-- R232: the long and the short text of a bit are the same digit. -/
theorem Record.texts_bit (start stop : Nat) (cls : RecClass) (b : Bool) :
    (Record.mk start stop cls (.bit b)).texts = if b then ("1", "1") else ("0", "0") := by
  cases b <;> rfl

/-- Settles O59: row by row of the two tables; the two rows that name a lane split on the lane. -/
theorem textForms : Obligations.TextForms := by
  refine ⟨map_regName_finRange, fun start stop cls b a v r acc l => ?_⟩
  have texts := Record.texts_eq start stop cls
  have actionTexts := Record.texts_act start stop cls
  refine ⟨texts .none, Record.texts_bit start stop cls b, texts (.dir .read), texts (.dir .write), texts (.addr a),
    texts (.val v), fun n => ?addrReg, actionTexts (.brkCtl v), actionTexts (.rwRead r), actionTexts .setAdl,
    actionTexts .resetAdl, actionTexts (.rwWrite r acc), fun k => actionTexts (.is k v), actionTexts (.stat v),
    ?rdReg, actionTexts (.rdMem v)⟩
  case addrReg => cases l <;> exact actionTexts (.addrReg n _ v)
  case rdReg => cases l <;> exact actionTexts (.rdReg r _ v)

end Sys2Proof.Machine

/-! PROOFS of the family 43_annotation_output.md: the digits of a number and the value they stand for, the windows of
the value bits, the flag strings, and the statements O57, O44 and O58. -/

namespace Sys2Proof.Machine

/-! ### The digits of a number (R230) -/

/-- The digits already written stay behind the digits still to come. -/
theorem hexDigits_eq_append (fuel v : Nat) (rest : List Char) :
    hexDigits fuel v rest = hexDigits fuel v [] ++ rest := by
  induction fuel generalizing v rest with
  | zero => rfl
  | succ fuel ih =>
    by_cases hv : v < 16
    · simp only [hexDigits, if_pos hv, List.singleton_append]
    · simp only [hexDigits, if_neg hv]
      rw [ih (v / 16) (_ :: rest), ih (v / 16) [_], List.append_assoc, List.singleton_append]

theorem hexDigits_of_lt {v : Nat} (fuel : Nat) (hv : v < 16) : hexDigits (fuel + 1) v [] = [Nat.digitChar v] := by
  simp only [hexDigits, if_pos hv]

theorem hexDigits_of_le {v : Nat} (fuel : Nat) (hv : 16 ≤ v) :
    hexDigits (fuel + 1) v [] = hexDigits fuel (v / 16) [] ++ [Nat.digitChar (v % 16)] := by
  simp only [hexDigits, if_neg hv.not_gt]
  exact hexDigits_eq_append fuel (v / 16) _

/-- What holds of every single digit, and of a numeral once it holds of the numeral without its last digit, holds of the
digits of every number the fuel reaches. -/
theorem hexDigits_induction {P : Nat → List Char → Prop} (digit : ∀ d < 16, P d [Nat.digitChar d])
    (snoc : ∀ v ds, 16 ≤ v → P (v / 16) ds → P v (ds ++ [Nat.digitChar (v % 16)]))
    {fuel v : Nat} (hfuel : v < fuel) : P v (hexDigits fuel v []) := by
  induction fuel generalizing v with
  | zero => exact absurd hfuel v.not_lt_zero
  | succ fuel ih =>
    obtain hv | hv := Nat.lt_or_ge v 16
    · rw [hexDigits_of_lt fuel hv]
      exact digit v hv
    · rw [hexDigits_of_le fuel hv]
      exact snoc v _ hv (ih (by omega))

theorem digitChar_mem_hexAlphabet : ∀ d < 16, Nat.digitChar d ∈ "0123456789abcdef".toList := by decide

theorem idxOf_digitChar : ∀ d < 16, "0123456789abcdef".toList.idxOf (Nat.digitChar d) = d := by decide

theorem digitChar_eq_zero_imp : ∀ d < 16, Nat.digitChar d = '0' → d = 0 := by decide

theorem hexValue_append_singleton (ds : List Char) (c : Char) :
    hexValue (ds ++ [c]) = 16 * hexValue ds + "0123456789abcdef".toList.idxOf c := by
  simp only [hexValue, List.foldl_append, List.foldl_cons, List.foldl_nil]

theorem hexDigits_lowerCase {fuel v : Nat} (hfuel : v < fuel) :
    ∀ c ∈ hexDigits fuel v [], c ∈ "0123456789abcdef".toList := by
  refine hexDigits_induction (P := fun _ ds => ∀ c ∈ ds, c ∈ "0123456789abcdef".toList) ?digit ?snoc hfuel
  case digit =>
    intro d hd
    exact List.forall_mem_singleton.2 (digitChar_mem_hexAlphabet d hd)
  case snoc =>
    intro v ds _ ih
    have hlast := digitChar_mem_hexAlphabet (v % 16) (v.mod_lt (by decide))
    exact List.forall_mem_append.2 ⟨ih, List.forall_mem_singleton.2 hlast⟩

/-- The first digit is the last one left of the number, so it is 0 only if the number is. -/
theorem hexDigits_eq_cons {fuel v : Nat} (hfuel : v < fuel) :
    ∃ c cs, hexDigits fuel v [] = c :: cs ∧ (c = '0' → v = 0) := by
  refine hexDigits_induction (P := fun v ds => ∃ c cs, ds = c :: cs ∧ (c = '0' → v = 0)) ?digit ?snoc hfuel
  case digit =>
    intro d hd
    exact ⟨_, [], rfl, digitChar_eq_zero_imp d hd⟩
  case snoc =>
    rintro v _ hv ⟨c, cs, rfl, hc⟩
    refine ⟨c, cs ++ [_], rfl, fun h => ?_⟩
    have hquot : v / 16 = 0 := hc h
    omega

/-- Horner's rule undoes the division by 16, digit by digit. -/
theorem hexValue_hexDigits {fuel v : Nat} (hfuel : v < fuel) : hexValue (hexDigits fuel v []) = v := by
  refine hexDigits_induction (P := fun v ds => hexValue ds = v) ?digit ?snoc hfuel
  case digit =>
    intro d hd
    simpa only [hexValue, List.foldl_cons, List.foldl_nil, Nat.mul_zero, Nat.zero_add] using idxOf_digitChar d hd
  case snoc =>
    intro v ds _ ih
    rw [hexValue_append_singleton, ih, idxOf_digitChar _ (v.mod_lt (by decide)), Nat.div_add_mod]

/-! ### The windows of the value bits (R228) -/

/-- R228: the window `[start, end)` of a value bit taken at sample `i`. -/
def valueBitWindow (dir : Direction) (i : Nat) : Nat × Nat := if dir = .read then (i - 1, i) else (i, i + 1)

theorem State.valueBitRecord_eq (s : State) (f : Frame) (k : Fin 8) :
    s.valueBitRecord f k =
      ⟨(valueBitWindow f.dir s.vIdx[k]).1, (valueBitWindow f.dir s.vIdx[k]).2, .bit,
        .bit (f.value.getLsbD (7 - k))⟩ := by
  cases hdir : f.dir <;> simp only [State.valueBitRecord, hdir] <;> rfl

/-! ### The flag strings (R235, R236) -/

/-- Joining the letters of the entries that pass a test is joining every entry's letters or nothing. -/
theorem join_map_filter {α : Type} (p : α → Bool) (letters : α → String) (entries : List α) :
    String.join ((entries.filter p).map letters) =
      String.join (entries.map fun e => flagLetter (p e) (letters e)) := by
  induction entries with
  | nil => rfl
  | cons e entries ih =>
    rw [List.map_cons, String.join_cons, ← ih]
    cases hp : p e with
    | false => rw [List.filter_cons_of_neg (by simp [hp]), flagLetter, if_neg Bool.false_ne_true, String.empty_append]
    | true => rw [List.filter_cons_of_pos hp, List.map_cons, String.join_cons, flagLetter, if_pos rfl]

theorem toList_ite_of_toList_eq {x y : Char} {set unset : String} (hset : set.toList = [x])
    (hunset : unset.toList = [y]) (b : Bool) : (if b then set else unset).toList = [if b then x else y] := by
  cases b with
  | false => exact hunset
  | true => exact hset

/-! ### The statements -/

/-- Settles O57: `hex v` reaches the digits of `v` with fuel `v + 1`; their first one is 0 only for `v = 0`. -/
theorem hexWritesTheNumber : Obligations.HexWritesTheNumber := by
  intro v
  have hfuel : v < v + 1 := v.lt_succ_self
  obtain ⟨c, cs, hdigits, hzero⟩ := hexDigits_eq_cons hfuel
  refine ⟨hexDigits (v + 1) v [], rfl, ?nonempty, hexDigits_lowerCase hfuel, ?leading, ?zero,
    hexValue_hexDigits hfuel⟩
  case nonempty => simp [hdigits]
  case leading =>
    intro hv hhead
    rw [hdigits, List.head?_cons, Option.some_inj] at hhead
    exact hv (hzero hhead)
  case zero =>
    rintro rfl
    rfl

/-- Settles O44: the two runs of bit records written out, the windows of the value bits by `State.valueBitRecord_eq`. -/
theorem frameRecordsInOrder : Obligations.FrameRecordsInOrder := by
  intro s f act w
  have hw : w = valueBitWindow f.dir := rfl
  have haddr : (List.finRange 7).map (s.addrBitRecord f) = [0, 1, 2, 3, 4, 5, 6].map (s.addrBitRecord f) := rfl
  have hvalue : (List.finRange 8).map (s.valueBitRecord f) = [0, 1, 2, 3, 4, 5, 6, 7].map (s.valueBitRecord f) := rfl
  simp only [State.frameRecords, haddr, hvalue, List.map_cons, List.map_nil, State.valueBitRecord_eq, hw]
  cases act <;> rfl

/-- Settles O58: the filtered join is the join of all eight `flagLetter`s, which `brkFlags` appends; of the status
string each letter is a choice of its own. -/
theorem flagStrings : Obligations.FlagStrings := by
  refine fun v => ⟨?brk, ?stat⟩
  case brk =>
    rw [join_map_filter, brkFlags]
    simp [String.append_assoc]
  case stat =>
    simp only [statFlags, String.toList_append]
    rw [toList_ite_of_toList_eq (x := 'Z') (y := 'z') rfl rfl, toList_ite_of_toList_eq (x := 'H') (y := 'h') rfl rfl,
      toList_ite_of_toList_eq (x := 'A') (y := 'a') rfl rfl, toList_ite_of_toList_eq (x := 'M') (y := 'm') rfl rfl,
      toList_ite_of_toList_eq (x := 'I') (y := 'i') rfl rfl]
    rfl

end Sys2Proof.Machine

/-! PROOFS of the family 60_exceptions.md: what the build check of a condition table accepts and refuses (R254), and the
statement O11. -/

namespace Sys2Proof

/-- R24: the list of phases leaves none out. -/
theorem Phase.mem_all (p : Phase) : p ∈ Phase.all := by
  cases p <;> simp [Phase.all]

end Sys2Proof

namespace Sys2Proof.Machine

/-! ### The build check of a condition table -/

/-- R254: the check accepts exactly the tables that are well formed in every phase, and gives them back unchanged. -/
theorem buildConditionTable_eq_some_iff {table built : Phase → ConditionSpec} :
    buildConditionTable table = some built ↔ (∀ p, (table p).wellFormed = true) ∧ table = built := by
  simp [buildConditionTable, Phase.mem_all]

/-- R76: the block's rows name distinct channels, and its one skip waits for at least one sample. -/
theorem conditionTable_wellFormed (p : Phase) : (conditionTable p).wellFormed = true := by
  cases p <;> decide

/-! ### The statement -/

/-- Settles O11: both parts read off what the build check accepts, `buildConditionTable_eq_some_iff`. -/
theorem illFormedConditionTableIsRefused : Obligations.IllFormedConditionTableIsRefused := by
  refine ⟨fun p => ?accepted, fun table p hillFormed => ?refused⟩
  case accepted =>
    rw [buildConditionTable_eq_some_iff.mpr ⟨conditionTable_wellFormed, rfl⟩, Option.map_some]
  case refused =>
    rw [Option.eq_none_iff_forall_ne_some]
    intro built hbuilt
    obtain ⟨hwellFormed, -⟩ := buildConditionTable_eq_some_iff.mp hbuilt
    exact Bool.false_ne_true (hillFormed.symm.trans (hwellFormed p))

end Sys2Proof.Machine

/-! PROOFS of the family 70_reset_and_hazards.md: the values reset leaves in the registers (R281), the step that takes
`rst` (R280), and the statements O1 and O2. -/

namespace Sys2Proof.Machine

/-! ### The state after reset -/

/-- R35: reset clears the shadow byte of every register and lane. -/
@[simp] theorem Session.shadowAt_reset (r : RegIdx) (l : Lane) : Session.reset.shadowAt r l = 0x00#8 := by
  cases l <;> simp [Session.shadowAt, Session.reset, Lanes.at]

/-- R36: reset clears the valid bit of every register and lane. -/
@[simp] theorem Session.validAt_reset (r : RegIdx) (l : Lane) : Session.reset.validAt r l = false := by
  cases l <;> simp [Session.validAt, Session.reset, Lanes.at]

theorem State.reset_hasResetValues : State.reset.HasResetValues where
  idx := rfl
  prevValid := rfl
  phase := rfl
  bitCnt := rfl
  addr := rfl
  dir := rfl
  sep1 := rfl
  sep2 := rfl
  value := rfl
  startIdx := rfl
  aIdx k := Vector.getElem_replicate k.isLt
  dIdx := rfl
  s1Idx := rfl
  vIdx k := Vector.getElem_replicate k.isLt
  acc := rfl
  sel := rfl
  sampleRate := rfl
  shadow := Session.shadowAt_reset
  shadowValid := Session.validAt_reset
  fault := rfl

/-! ### The step that takes `rst` -/

/-- The reset values do not speak of the host's supply, all that `restart` keeps (log entry 14). -/
theorem State.restart_hasResetValues (s : State) : s.restart.HasResetValues :=
  { State.reset_hasResetValues with }

/-- R280: the step takes the event and restarts; its sample is not read. -/
theorem step_rst (s : State) (x : Sample) (rest : List HostEvent) :
    step { s with input := .rst x :: rest } = .next (State.restart { s with input := rest }) := rfl

/-! ### The statements -/

/-- Settles O1, register by register: `State.reset_hasResetValues`. -/
theorem resetLeavesTheListedValues : Obligations.ResetLeavesTheListedValues :=
  State.reset_hasResetValues

/-- Settles O2: by `step_rst` the next state is the restart, in which no sample occurs. -/
theorem rstRestoresEveryResetValue : Obligations.RstRestoresEveryResetValue := by
  intro s rest
  refine ⟨State.restart { s with input := rest }, fun x => step_rst s x rest, ?values, ?tx, ?rec⟩
  case values => exact State.restart_hasResetValues _
  case tx => exact State.restart_txPort _
  case rec => exact State.restart_recPort _

end Sys2Proof.Machine

/-! PROOFS of the family other, the encodings (30_encoding.md): decoding and encoding undo one another, the decoder
picks the row of the opcode table, and the statements O27 to O30. -/

namespace Sys2Proof

/-! ### The decoder by the fields of the frame word -/

/-- R71: the direction bit selects the half of the decode map, the address the row. -/
theorem decodeFrame_packFrame (a : Addr) (dir sep1 : Bool) (v : Byte) (sep2 : Bool) :
    decodeFrame (packFrame a dir sep1 v sep2) =
      if dir then decodeRead a sep1 v sep2 else decodeWrite a sep1 v sep2 := by
  simp only [decodeFrame, frameAddr_packFrame, frameDir_packFrame, frameSep1_packFrame, frameValue_packFrame,
    frameSep2_packFrame]

/-- R79: a write address without a row of its own is unmatched. -/
theorem decodeWrite_of_not_mem {a : Addr} (ha : a ∉ writeAddresses) (sep1 : Bool) (v : Byte) (sep2 : Bool) :
    decodeWrite a sep1 v sep2 = .wUnmatched a sep1 v sep2 := by
  simp only [writeAddresses, List.mem_cons, List.not_mem_nil, or_false, not_or] at ha
  simp only [decodeWrite, ha, if_false]

/-- R79: a read address without a row of its own is unmatched. -/
theorem decodeRead_of_not_mem {a : Addr} (ha : a ∉ readAddresses) (sep1 : Bool) (v : Byte) (sep2 : Bool) :
    decodeRead a sep1 v sep2 = .rUnmatched a sep1 v sep2 := by
  simp only [readAddresses, List.mem_cons, List.not_mem_nil, or_false, not_or] at ha
  simp only [decodeRead, ha, if_false]

/-! ### The values of a 0x16 write (R78) -/

/-- The five high bits of a byte are its quotient by 8. -/
theorem extractHigh_eq_iff (v : Byte) (hi : BitVec 5) : v.extractLsb' 3 5 = hi ↔ v.toNat / 8 = hi.toNat := by
  rw [← BitVec.toNat_inj, BitVec.extractLsb'_toNat, Nat.shiftRight_eq_div_pow]
  have := v.isLt
  omega

theorem decodeRwCtl_of_lt_8 {v : Byte} (hv : v.toNat < 8) (sep1 sep2 : Bool) :
    decodeRwCtl sep1 v sep2 = .wRwCtlRead sep1 (v.extractLsb' 0 3) sep2 := by
  have hhigh : v.extractLsb' 3 5 = 0b00000#5 := (extractHigh_eq_iff v _).mpr (Nat.div_eq_of_lt hv)
  rw [decodeRwCtl, if_pos hhigh]

theorem decodeRwCtl_of_mem_0x80 {v : Byte} (hv : 0x80 ≤ v.toNat ∧ v.toNat ≤ 0x87) (sep1 sep2 : Bool) :
    decodeRwCtl sep1 v sep2 = .wRwCtlWrite sep1 (v.extractLsb' 0 3) sep2 := by
  have hread : v.extractLsb' 3 5 ≠ 0b00000#5 := by rw [Ne, extractHigh_eq_iff, BitVec.toNat_ofNat]; omega
  have hset : v ≠ 0x08#8 := by rintro rfl; simp at hv
  have hreset : v ≠ 0x09#8 := by rintro rfl; simp at hv
  have hwrite : v.extractLsb' 3 5 = 0b10000#5 := by rw [extractHigh_eq_iff, BitVec.toNat_ofNat]; omega
  rw [decodeRwCtl, if_neg hread, if_neg hset, if_neg hreset, if_pos hwrite]

/-- R192: the range of W_RW_CTL_OTHER in numbers. -/
theorem isOtherRwCtlValue_iff (v : Byte) :
    isOtherRwCtlValue v = true ↔ (0x0a ≤ v.toNat ∧ v.toNat ≤ 0x7f) ∨ 0x88 ≤ v.toNat := by
  simp [isOtherRwCtlValue, BitVec.le_def]

theorem decodeRwCtl_of_other {v : Byte} (hv : isOtherRwCtlValue v = true) (sep1 sep2 : Bool) :
    decodeRwCtl sep1 v sep2 = .wRwCtlOther sep1 v sep2 := by
  rw [isOtherRwCtlValue_iff] at hv
  have hread : v.extractLsb' 3 5 ≠ 0b00000#5 := by rw [Ne, extractHigh_eq_iff, BitVec.toNat_ofNat]; omega
  have hset : v ≠ 0x08#8 := by rintro rfl; simp at hv
  have hreset : v ≠ 0x09#8 := by rintro rfl; simp at hv
  have hwrite : v.extractLsb' 3 5 ≠ 0b10000#5 := by rw [Ne, extractHigh_eq_iff, BitVec.toNat_ofNat]; omega
  rw [decodeRwCtl, if_neg hread, if_neg hset, if_neg hreset, if_neg hwrite]

theorem decodeRwCtl_read (r : RegIdx) (sep1 sep2 : Bool) :
    decodeRwCtl sep1 (0b00000#5 ++ r) sep2 = .wRwCtlRead sep1 r sep2 := by
  have hlow : (0b00000#5 ++ r : Byte).extractLsb' 0 3 = r := by revert r; decide
  rw [decodeRwCtl_of_lt_8 (by revert r; decide), hlow]

theorem decodeRwCtl_write (r : RegIdx) (sep1 sep2 : Bool) :
    decodeRwCtl sep1 (0b10000#5 ++ r) sep2 = .wRwCtlWrite sep1 r sep2 := by
  have hlow : (0b10000#5 ++ r : Byte).extractLsb' 0 3 = r := by revert r; decide
  rw [decodeRwCtl_of_mem_0x80 (by revert r; decide), hlow]

/-- A byte is its five high bits over its three low bits. -/
theorem append_extract_byte (v : Byte) {hi : BitVec 5} (h : v.extractLsb' 3 5 = hi) :
    hi ++ v.extractLsb' 0 3 = v := by
  subst h
  apply BitVec.eq_of_getLsbD_eq
  intro i hi
  simp only [BitVec.getLsbD_append, BitVec.getLsbD_extractLsb']
  interval_cases i <;> simp

/-! ### What the decoder answers is well formed and encodes to the word -/

/-- The operation is in its row's range and encodes to the frame word. -/
structure Instr.Encodes (i : Instr) (fw : FrameWord) : Prop where
  wellFormed : i.wellFormed = true
  encode : encode i = .frame fw

theorem decodeRwCtl_encodes (sep1 : Bool) (v : Byte) (sep2 : Bool) :
    (decodeRwCtl sep1 v sep2).Encodes (packFrame 0x16#7 false sep1 v sep2) := by
  unfold decodeRwCtl
  split
  case isTrue hread => exact ⟨rfl, by simp only [encode, append_extract_byte v hread]⟩
  case isFalse hread =>
  split
  case isTrue hset => exact ⟨rfl, by rw [hset]; rfl⟩
  case isFalse hset =>
  split
  case isTrue hreset => exact ⟨rfl, by rw [hreset]; rfl⟩
  case isFalse hreset =>
  split
  case isTrue hwrite => exact ⟨rfl, by simp only [encode, append_extract_byte v hwrite]⟩
  case isFalse hwrite =>
  refine ⟨(isOtherRwCtlValue_iff v).mpr ?_, rfl⟩
  rw [extractHigh_eq_iff, BitVec.toNat_ofNat] at hread hwrite
  rw [← BitVec.toNat_inj, BitVec.toNat_ofNat] at hset hreset
  omega

/-- R77: a write frame is in the row of its address or, where there is none, unmatched. -/
theorem decodeWrite_encodes (a : Addr) (sep1 : Bool) (v : Byte) (sep2 : Bool) :
    (decodeWrite a sep1 v sep2).Encodes (packFrame a false sep1 v sep2) := by
  by_cases ha : a ∈ writeAddresses
  · by_cases hrw : a = 0x16#7
    · subst hrw
      exact decodeRwCtl_encodes sep1 v sep2
    · simp only [writeAddresses, List.mem_cons, List.not_mem_nil, or_false, false_or, hrw] at ha
      rcases ha with rfl | rfl | rfl | rfl | rfl | rfl | rfl | rfl | rfl | rfl | rfl | rfl | rfl | rfl | rfl | rfl |
        rfl | rfl | rfl | rfl | rfl
      all_goals exact ⟨rfl, rfl⟩
  · rw [decodeWrite_of_not_mem ha]
    exact ⟨by simpa [Instr.wellFormed] using ha, rfl⟩

/-- R77: a read frame is in the row of its address or, where there is none, unmatched. -/
theorem decodeRead_encodes (a : Addr) (sep1 : Bool) (v : Byte) (sep2 : Bool) :
    (decodeRead a sep1 v sep2).Encodes (packFrame a true sep1 v sep2) := by
  by_cases ha : a ∈ readAddresses
  · simp only [readAddresses, List.mem_cons, List.not_mem_nil, or_false] at ha
    rcases ha with rfl | rfl | rfl | rfl | rfl
    all_goals exact ⟨rfl, rfl⟩
  · rw [decodeRead_of_not_mem ha]
    exact ⟨by simpa [Instr.wellFormed] using ha, rfl⟩

theorem decodeFrame_encodes (fw : FrameWord) : (decodeFrame fw).Encodes fw := by
  conv => arg 2; rw [← packFrame_fields fw]
  unfold decodeFrame
  cases frameDir fw with
  | true => exact decodeRead_encodes ..
  | false => exact decodeWrite_encodes ..

/-! ### The rows of the opcode table -/

/-- R71: the mask of the rows keyed by address and direction tests exactly those two fields. -/
theorem keyRow_fits_iff (a : Addr) (dir : Bool) (fw : FrameWord) :
    FrameRow.fits ⟨0x3fc00#18, packFrame a dir false 0#8 false⟩ fw = true ↔ frameAddr fw = a ∧ frameDir fw = dir := by
  conv => lhs; rw [← packFrame_fields fw]
  simp only [FrameRow.fits, packFrame_and_keyMask, beq_iff_eq]
  refine ⟨fun h => ?fields, fun ⟨haddr, hdir⟩ => by rw [haddr, hdir]⟩
  exact ⟨by simpa using congrArg frameAddr h, by simpa using congrArg frameDir h⟩

/-- The key of a row with a longer mask is tested with the rest. -/
theorem keyRow_fits_of_submask {r : FrameRow} {fw : FrameWord} (hfits : r.fits fw = true)
    (hmask : r.mask &&& 0x3fc00#18 = 0x3fc00#18) : FrameRow.fits ⟨0x3fc00#18, r.bits &&& 0x3fc00#18⟩ fw = true := by
  simp only [FrameRow.fits, beq_iff_eq] at hfits ⊢
  rw [← hfits, BitVec.and_assoc, hmask]

/-- R71: the bits of the value field of a row that fits. -/
theorem value_bits_of_fits {r : FrameRow} {fw : FrameWord} (hfits : r.fits fw = true) :
    frameValue fw &&& frameValue r.mask = frameValue r.bits := by
  simp only [FrameRow.fits, beq_iff_eq] at hfits
  rw [← hfits]
  apply BitVec.eq_of_getLsbD_eq
  intro i hi
  simp [frameValue, hi]

/-- The encoded word of an operation fits the operation's row: the laws of the single rows, for all of them. -/
theorem Instr.fitsRow : ∀ i : Instr, Laws.FitsRow.Statement i
  | .condAwaitStart => Laws.FitsRow.condAwaitStart
  | .condAddr d => Laws.FitsRow.condAddr d
  | .condDir d => Laws.FitsRow.condDir d
  | .condSep1 d => Laws.FitsRow.condSep1 d
  | .condValW d => Laws.FitsRow.condValW d
  | .condValRFall => Laws.FitsRow.condValRFall
  | .condValRSkip d => Laws.FitsRow.condValRSkip d
  | .condSep2 d => Laws.FitsRow.condSep2 d
  | .wAddr0L sep1 v sep2 => Laws.FitsRow.wAddr0L sep1 v sep2
  | .wAddr0H sep1 v sep2 => Laws.FitsRow.wAddr0H sep1 v sep2
  | .wAddr0U sep1 v sep2 => Laws.FitsRow.wAddr0U sep1 v sep2
  | .wAddr1L sep1 v sep2 => Laws.FitsRow.wAddr1L sep1 v sep2
  | .wAddr1H sep1 v sep2 => Laws.FitsRow.wAddr1H sep1 v sep2
  | .wAddr1U sep1 v sep2 => Laws.FitsRow.wAddr1U sep1 v sep2
  | .wAddr2L sep1 v sep2 => Laws.FitsRow.wAddr2L sep1 v sep2
  | .wAddr2H sep1 v sep2 => Laws.FitsRow.wAddr2H sep1 v sep2
  | .wAddr2U sep1 v sep2 => Laws.FitsRow.wAddr2U sep1 v sep2
  | .wAddr3L sep1 v sep2 => Laws.FitsRow.wAddr3L sep1 v sep2
  | .wAddr3H sep1 v sep2 => Laws.FitsRow.wAddr3H sep1 v sep2
  | .wAddr3U sep1 v sep2 => Laws.FitsRow.wAddr3U sep1 v sep2
  | .wBrkCtl sep1 v sep2 => Laws.FitsRow.wBrkCtl sep1 v sep2
  | .wWrDataL sep1 v sep2 => Laws.FitsRow.wWrDataL sep1 v sep2
  | .wWrDataH sep1 v sep2 => Laws.FitsRow.wWrDataH sep1 v sep2
  | .wWrDataU sep1 v sep2 => Laws.FitsRow.wWrDataU sep1 v sep2
  | .wRwCtlRead sep1 r sep2 => Laws.FitsRow.wRwCtlRead sep1 r sep2
  | .wRwCtlSetAdl sep1 sep2 => Laws.FitsRow.wRwCtlSetAdl sep1 sep2
  | .wRwCtlResetAdl sep1 sep2 => Laws.FitsRow.wRwCtlResetAdl sep1 sep2
  | .wRwCtlWrite sep1 r sep2 => Laws.FitsRow.wRwCtlWrite sep1 r sep2
  | .wIs4 sep1 v sep2 => Laws.FitsRow.wIs4 sep1 v sep2
  | .wIs3 sep1 v sep2 => Laws.FitsRow.wIs3 sep1 v sep2
  | .wIs2 sep1 v sep2 => Laws.FitsRow.wIs2 sep1 v sep2
  | .wIs1 sep1 v sep2 => Laws.FitsRow.wIs1 sep1 v sep2
  | .wIs0 sep1 v sep2 => Laws.FitsRow.wIs0 sep1 v sep2
  | .rStat sep1 v sep2 => Laws.FitsRow.rStat sep1 v sep2
  | .rRdL sep1 v sep2 => Laws.FitsRow.rRdL sep1 v sep2
  | .rRdH sep1 v sep2 => Laws.FitsRow.rRdH sep1 v sep2
  | .rRdU sep1 v sep2 => Laws.FitsRow.rRdU sep1 v sep2
  | .rRdMem sep1 v sep2 => Laws.FitsRow.rRdMem sep1 v sep2
  | .wRwCtlOther sep1 v sep2 => Laws.FitsRow.wRwCtlOther sep1 v sep2
  | .wUnmatched a sep1 v sep2 => Laws.FitsRow.wUnmatched a sep1 v sep2
  | .rUnmatched a sep1 v sep2 => Laws.FitsRow.rUnmatched a sep1 v sep2

/-- A condition row has no frame word, and every classifier row is a row of the table. -/
theorem exists_frameRow_of_encode {i : Instr} {fw : FrameWord} (h : encode i = .frame fw) :
    ∃ r, i.frameRow? = some r := by
  cases i
  case condAwaitStart | condAddr | condDir | condSep1 | condValW | condValRFall | condValRSkip | condSep2 => cases h
  all_goals exact ⟨_, rfl⟩

/-- A fitting row keyed by address and direction is the row of the decoded operation, if the decoder has that row at the
key. -/
theorem frameRow_decodeFrame_of_key {i : Instr} {r : FrameRow} {fw b : FrameWord} {a : Addr} {dir sep1 sep2 : Bool}
    {v : Byte} (hr : i.frameRow? = some r) (hfits : r.fits fw = true)
    (hencode : encode i = .frame (packFrame a dir sep1 v sep2)) (hrow : i.frameRow? = some ⟨0x3fc00#18, b⟩)
    (hkey : packFrame a dir false 0#8 false = b)
    (hdecode : ∀ s v t, (if dir then decodeRead a s v t else decodeWrite a s v t).frameRow? = i.frameRow?) :
    (decodeFrame fw).frameRow? = some r := by
  obtain rfl : r = ⟨0x3fc00#18, b⟩ := Option.some.inj (hr.symm.trans hrow)
  rw [← hkey, keyRow_fits_iff] at hfits
  obtain ⟨rfl, rfl⟩ := hfits
  exact (hdecode ..).trans hr

/-- A fitting row of a 0x16 write: the word is decoded by its value, and the value has the row's fixed bits. -/
theorem decodeFrame_of_rwCtlRow {r : FrameRow} {fw : FrameWord} (hfits : r.fits fw = true)
    (hmask : r.mask &&& 0x3fc00#18 = 0x3fc00#18)
    (hbits : r.bits &&& 0x3fc00#18 = packFrame 0x16#7 false false 0#8 false) :
    decodeFrame fw = decodeRwCtl (frameSep1 fw) (frameValue fw) (frameSep2 fw) ∧
      frameValue fw &&& frameValue r.mask = frameValue r.bits := by
  have hkey := keyRow_fits_of_submask hfits hmask
  rw [hbits, keyRow_fits_iff] at hkey
  obtain ⟨haddr, hdir⟩ := hkey
  refine ⟨?_, value_bits_of_fits hfits⟩
  rw [decodeFrame, haddr, hdir]
  rfl

/-- The mask 0xf8 keeps the five high bits of a byte. -/
theorem extractHigh_and_mask (v : Byte) : (v &&& 0xf8#8).extractLsb' 3 5 = v.extractLsb' 3 5 := by
  rw [BitVec.extractLsb'_and]
  exact BitVec.and_allOnes

/-! ### The statements -/

/-- A row whose address and direction alone select it. -/
theorem decode_encode_of_frame {i : Instr} {a : Addr} {dir sep1 : Bool} {v : Byte} {sep2 : Bool}
    (hencode : encode i = .frame (packFrame a dir sep1 v sep2))
    (hrow : (if dir then decodeRead a sep1 v sep2 else decodeWrite a sep1 v sep2) = i) :
    decode (encode i) = .instr i := by
  rw [hencode, decode, decodeFrame_packFrame, hrow]

/-- Settles O27, row by row: a condition row by its four bits, a row with a key of its own by computation, a
fall-through row because its operands are in no other row's range. -/
theorem decodeUndoesEncode : Obligations.DecodeUndoesEncode := by
  intro i hwf
  cases i with
  | condAwaitStart | condValRFall => decide
  | condAddr d | condDir d | condSep1 d | condValW d | condValRSkip d | condSep2 d => cases d <;> decide
  | wRwCtlRead sep1 r sep2 => exact decode_encode_of_frame rfl (decodeRwCtl_read r sep1 sep2)
  | wRwCtlWrite sep1 r sep2 => exact decode_encode_of_frame rfl (decodeRwCtl_write r sep1 sep2)
  | wRwCtlOther sep1 v sep2 => exact decode_encode_of_frame rfl (decodeRwCtl_of_other hwf sep1 sep2)
  | wUnmatched a sep1 v sep2 =>
    exact decode_encode_of_frame rfl (decodeWrite_of_not_mem (by simpa [Instr.wellFormed] using hwf) sep1 v sep2)
  | rUnmatched a sep1 v sep2 =>
    exact decode_encode_of_frame rfl (decodeRead_of_not_mem (by simpa [Instr.wellFormed] using hwf) sep1 v sep2)
  | _ => exact decode_encode_of_frame rfl rfl

/-- Settles O28: existence is `decodeFrame_encodes`, and an operation that encodes to the word is what the word decodes
to by O27. -/
theorem encodeUndoesDecodeOfFrames : Obligations.EncodeUndoesDecodeOfFrames := by
  intro fw
  obtain ⟨hwf, hencode⟩ := decodeFrame_encodes fw
  refine ⟨hwf, hencode, fun i hi hfw => ?unique⟩
  have hdecode := decodeUndoesEncode i hi
  rw [hfw, decode] at hdecode
  injection hdecode with h
  exact h.symm

/-- Settles O29: a row with a key of its own fits only the words that decode to it, and the decoded operation's row fits
because the operation encodes to the word. -/
theorem decoderPicksTheMatchingRow : Obligations.DecoderPicksTheMatchingRow := by
  refine fun fw => ⟨?fits, fun i r hr hfits hother hwrite hread => ?only⟩
  case fits =>
    have hencode := (decodeFrame_encodes fw).encode
    obtain ⟨r, hr⟩ := exists_frameRow_of_encode hencode
    exact ⟨r, hr, (Instr.fitsRow _).1 r fw hr hencode⟩
  case only =>
    cases i with
    | condAwaitStart | condAddr | condDir | condSep1 | condValW | condValRFall | condValRSkip | condSep2 => cases hr
    | wRwCtlOther s v t => exact absurd rfl (hother s v t)
    | wUnmatched a s v t => exact absurd rfl (hwrite a s v t)
    | rUnmatched a s v t => exact absurd rfl (hread a s v t)
    | wRwCtlSetAdl | wRwCtlResetAdl =>
      cases hr
      obtain ⟨hdecode, hvalue⟩ := decodeFrame_of_rwCtlRow hfits (by decide) (by decide)
      have hv := (BitVec.and_allOnes (x := frameValue fw)).symm.trans hvalue
      rw [hdecode, hv]
      rfl
    | wRwCtlRead =>
      cases hr
      obtain ⟨hdecode, hvalue⟩ := decodeFrame_of_rwCtlRow hfits (by decide) (by decide)
      have hhigh : (frameValue fw).extractLsb' 3 5 = 0b00000#5 :=
        (extractHigh_and_mask _).symm.trans (congrArg _ hvalue)
      rw [hdecode, ← append_extract_byte _ hhigh, decodeRwCtl_read]
      rfl
    | wRwCtlWrite =>
      cases hr
      obtain ⟨hdecode, hvalue⟩ := decodeFrame_of_rwCtlRow hfits (by decide) (by decide)
      have hhigh : (frameValue fw).extractLsb' 3 5 = 0b10000#5 :=
        (extractHigh_and_mask _).symm.trans (congrArg _ hvalue)
      rw [hdecode, ← append_extract_byte _ hhigh, decodeRwCtl_write]
      rfl
    | _ => exact frameRow_decodeFrame_of_key hr hfits rfl rfl (by decide) (fun _ _ _ => rfl)

/-- Settles O30: each word by computation, and the table's numbering of a frame word by its width. -/
theorem wordsOfTheTableDecode : Obligations.WordsOfTheTableDecode := by
  refine ⟨by decide, by decide, by decide, by decide, by decide, by decide, by decide, by decide, by decide, ?number⟩
  intro fw
  have hword : tableCodeWord 24 fw.toNat = some (.frame fw) := by
    rw [tableCodeWord, if_neg (by decide), if_pos fw.isLt, BitVec.ofNat_toNat, BitVec.setWidth_eq]
  rw [decodeTableWord, hword]
  rfl

end Sys2Proof

/-! PROOFS of the family other, the invariant of the reachable states: the capture indices each phase takes, what the
step keeps, the windows of the emitted records, and the statements O50 to O52. -/

namespace Sys2Proof.Machine

/-! ### The step of a sample, branch by branch -/

/-- R100, R148, R253: frozen by the fault, raising it, running the phase's operation, or discarding the sample. -/
theorem takeSample_eq (s : State) (x : Sample) :
    s.takeSample x =
      if s.fault then .next (s.advance x)
      else if s.unreachable then .next (s.raiseFault.advance x)
      else if s.conditionHolds x then onNext (exec (condInstr s.phase x.d) s) (·.advance x)
      else .next (s.advance x) := by
  cases hfault : s.fault with
  | true => simp [State.takeSample, State.runPhase, hfault]
  | false =>
    cases hreach : s.unreachable with
    | true => simp [State.takeSample, State.runPhase, hfault, hreach]
    | false =>
      rw [State.takeSample, runPhase_eq_ite_conditionHolds x hfault hreach]
      cases s.conditionHolds x <;> rfl

/-- R100: with no fault set and none to raise, a sample is discarded or its phase's operation runs. -/
theorem takeSample_cases_of_reachable {s t : State} {x : Sample} (hfault : s.fault = false)
    (hreach : s.unreachable = false) (h : s.takeSample x = .next t) :
    (s.conditionHolds x = false ∧ t = s.advance x) ∨
    (s.conditionHolds x = true ∧ ∃ u, exec (condInstr s.phase x.d) s = .next u ∧ t = u.advance x) := by
  simp only [takeSample_eq, hfault, hreach, Bool.false_eq_true, if_false] at h
  cases hcond : s.conditionHolds x with
  | false =>
    rw [hcond] at h
    cases h
    exact .inl ⟨rfl, rfl⟩
  | true =>
    rw [hcond, if_pos rfl, onNext_eq_next] at h
    exact .inr ⟨rfl, h⟩

/-! ### The capture indices -/

/-- R30: writing entry `k` makes the first `k + 1` entries the first `k` and the new one. -/
theorem putIdx_toList_take {n : Nat} (v : Vector Nat n) {k : Nat} (hk : k < n) (i : Nat) :
    (putIdx v k i).toList.take (k + 1) = v.toList.take k ++ [i] := by
  have hlen : k < (v.toList.set k i).length := by simpa using hk
  rw [putIdx, Vector.toList_setIfInBounds, List.take_add_one, List.take_set, List.getElem?_eq_getElem hlen,
    List.set_eq_of_length_le (by simp)]
  simp

/-- Writing the last entry: the whole vector is the entries before it and the new one. -/
theorem putIdx_toList_of_last {n : Nat} (v : Vector Nat (n + 1)) {k : Nat} (hk : k = n) (i : Nat) :
    (putIdx v k i).toList = v.toList.take k ++ [i] := by
  rw [← putIdx_toList_take v (by omega) i, List.take_of_length_le (by simp [hk])]

/-- R130: the value bit taken is the next capture index of the frame. -/
theorem captured_takeValueBit_countBit (d : Bool) {s t : State} {more : Phase} (hmore : more = .valW ∨ more = .valRFall)
    (ht : t = (s.takeValueBit d).countBit 7#3 more .sep2) :
    t.captured =
      s.startIdx :: s.aIdx.toList ++ [s.dIdx, s.s1Idx] ++ s.vIdx.toList.take s.bitCnt.toNat ++ [s.idx] := by
  subst ht
  by_cases hlast : s.bitCnt = 7#3
  · have hfull := putIdx_toList_of_last s.vIdx (k := 7) rfl s.idx
    simp [State.captured, hlast, hfull]
  · have htake := putIdx_toList_take s.vIdx s.bitCnt.isLt s.idx
    rcases hmore with rfl | rfl
    all_goals simp [State.captured, hlast, toNat_bitCnt_add_one hlast, htake]

/-- R30, R130: the operation of a phase closes the frame, opens one at the current sample, keeps the capture indices, or
adds the current sample to them. -/
theorem captured_of_exec_condInstr {s u : State} {d : Bool} (hcount : s.countLegal)
    (h : exec (condInstr s.phase d) s = .next u) :
    u.captured = [] ∨ u.captured = [s.idx] ∨ u.captured = s.captured ∨ u.captured = s.captured ++ [s.idx] := by
  cases hphase : s.phase <;> rw [hphase] at h <;> simp only [State.countLegal, hphase] at hcount
  case awaitStart =>
    cases h
    exact .inr (.inl rfl)
  case addr =>
    cases (exec_condAddr d s hcount).symm.trans h
    refine .inr (.inr (.inr ?_))
    by_cases hlast : s.bitCnt = 6#3
    · have hfull := putIdx_toList_of_last s.aIdx (k := 6) rfl s.idx
      simp [State.captured, hphase, hlast, hfull]
    · have htake := putIdx_toList_take s.aIdx (k := s.bitCnt.toNat) (by bv_omega) s.idx
      simp [State.captured, hphase, hlast, toNat_bitCnt_add_one hcount, htake]
  case dir =>
    cases h
    refine .inr (.inr (.inr ?_))
    simp [State.captured, hphase]
  case sep1 =>
    cases h
    refine .inr (.inr (.inr ?_))
    cases hdir : s.dir <;> simp [State.captured, hphase]
  case valW =>
    refine .inr (.inr (.inr ?_))
    rw [captured_takeValueBit_countBit d (.inl rfl) (Host.Outcome.next.inj h).symm]
    simp [State.captured, hphase]
  case valRFall =>
    cases h
    refine .inr (.inr (.inl ?_))
    simp [State.captured, hphase]
  case valRSkip =>
    refine .inr (.inr (.inr ?_))
    rw [captured_takeValueBit_countBit d (.inr rfl) (Host.Outcome.next.inj h).symm]
    simp [State.captured, hphase]
  case sep2 =>
    cases h
    exact .inl rfl

/-- Indices in order before a sample stay so when the index moves on, and the sample may be added to them. -/
theorem pairwise_lt_of_captured {old new : List Nat} {i : Nat} (hold : (old ++ [i]).Pairwise (· < ·))
    (hnew : new = [] ∨ new = [i] ∨ new = old ∨ new = old ++ [i]) : (new ++ [i + 1]).Pairwise (· < ·) := by
  have hbefore : ∀ j ∈ old, j < i := fun j hj => (List.pairwise_append.mp hold).2.2 j hj i (by simp)
  have hadded : (old ++ [i] ++ [i + 1]).Pairwise (· < ·) := by
    refine List.pairwise_append.mpr ⟨hold, List.pairwise_singleton _ _, fun j hj k hk => ?_⟩
    rw [List.mem_singleton] at hk
    rcases List.mem_append.mp hj with hj | hj
    · have := hbefore j hj
      omega
    · rw [List.mem_singleton] at hj
      omega
  rcases hnew with rfl | rfl | rfl | rfl
  · simp
  · simp
  · exact hadded.sublist (by simp)
  · exact hadded

/-! ### The invariant, step by step -/

/-- R25, R134: the operation of a phase leaves a legal count and a direction that agrees with the phase. -/
theorem countLegal_directionAgrees_of_exec_condInstr {s u : State} {d : Bool} (hcount : s.countLegal)
    (hdir : s.directionAgrees) (h : exec (condInstr s.phase d) s = .next u) : u.countLegal ∧ u.directionAgrees := by
  cases hphase : s.phase <;> rw [hphase] at h <;>
    simp only [State.countLegal, State.directionAgrees, hphase] at hcount hdir
  case awaitStart =>
    cases h
    exact ⟨(by decide : (0#3 : BitVec 3) ≠ 7#3), trivial⟩
  case addr =>
    cases (exec_condAddr d s hcount).symm.trans h
    by_cases hlast : s.bitCnt = 6#3
    · simp [State.countLegal, State.directionAgrees, hlast]
    · have hnext : s.bitCnt + 1#3 ≠ 7#3 := by bv_omega
      simp [State.countLegal, State.directionAgrees, hlast, hnext]
  case dir =>
    cases h
    exact ⟨hcount, trivial⟩
  case sep1 =>
    cases h
    cases s.dir <;> simp [State.countLegal, State.directionAgrees]
  case valW | valRSkip =>
    obtain rfl := Host.Outcome.next.inj h
    by_cases hlast : s.bitCnt = 7#3 <;> simp [State.countLegal, State.directionAgrees, hlast, hdir]
  case valRFall =>
    cases h
    exact ⟨trivial, hdir⟩
  case sep2 =>
    cases h
    exact ⟨rfl, trivial⟩

/-- R253: a state that meets the invariant is not the unreachable one. -/
theorem State.Inv.reachable {s : State} (h : s.Inv) : s.unreachable = false := by
  have hcount := h.count
  cases hphase : s.phase <;> simp [State.unreachable, hphase]
  simpa [State.countLegal, hphase] using hcount

/-- No operation of a phase sets the fault outside the unreachable state. -/
theorem fault_of_exec_condInstr {s u : State} {p : Phase} {d : Bool} (hcnt : p = .addr → s.bitCnt ≠ 7#3)
    (h : exec (condInstr p d) s = .next u) : u.fault = s.fault := by
  cases p with
  | addr =>
    cases (exec_condAddr d s (hcnt rfl)).symm.trans h
    simp
  | valW | valRSkip =>
    obtain rfl := Host.Outcome.next.inj h
    simp
  | awaitStart | dir | sep1 | valRFall | sep2 => cases h; rfl

/-- What the edge detector's update needs of the state it is applied to, to answer one that meets the invariant. -/
theorem State.inv_advance {u : State} (x : Sample) (hfault : u.fault = false) (hcount : u.countLegal)
    (hdir : u.directionAgrees) (hinc : (u.captured ++ [u.idx + 1]).Pairwise (· < ·)) : (u.advance x).Inv where
  noFault := hfault
  count := hcount
  direction := hdir
  increasing := hinc
  fresh := by simp
  unopened := by simp

/-- The step of a sample keeps the invariant. -/
theorem State.Inv.takeSample {s t : State} {x : Sample} (hinv : s.Inv) (h : s.takeSample x = .next t) : t.Inv := by
  obtain ⟨-, rfl⟩ | ⟨-, u, hu, rfl⟩ := takeSample_cases_of_reachable hinv.noFault hinv.reachable h
  · exact State.inv_advance x hinv.noFault hinv.count hinv.direction
      (pairwise_lt_of_captured hinv.increasing (.inr (.inr (.inl rfl))))
  · obtain ⟨hcount, hdir⟩ := countLegal_directionAgrees_of_exec_condInstr hinv.count hinv.direction hu
    have hidx : u.idx = s.idx := (sameSupply_of_exec_condInstr hu).idx
    refine State.inv_advance x ?fault hcount hdir ?increasing
    case fault =>
      rw [fault_of_exec_condInstr (bitCnt_ne_seven_of_reachable hinv.reachable) hu, hinv.noFault]
    case increasing =>
      rw [hidx]
      exact pairwise_lt_of_captured hinv.increasing (captured_of_exec_condInstr hinv.count hu)

/-- The invariant speaks of no port, of no stored sample rate and of no event still to be taken. -/
theorem State.Inv.withSupply {s : State} (h : s.Inv) (rest : List HostEvent) (rate : Option Int) :
    State.Inv { s.quiet with input := rest, sampleRate := rate } :=
  ⟨h.noFault, h.count, h.direction, h.increasing, h.fresh, h.unopened⟩

theorem State.reset_inv : State.reset.Inv :=
  ⟨rfl, rfl, trivial, by decide, by decide, fun _ => rfl⟩

/-! ### The windows of the records (R221) -/

theorem toList_eq_ofFn {n : Nat} (v : Vector Nat n) : v.toList = List.ofFn fun k : Fin n => v[k] :=
  List.ext_getElem (by simp) (by simp)

/-- R143: at separator-2 the whole frame has been captured, its start, its seven address bits, its direction, its
separator-1 and its eight value bits, one after another and all before the sample to come. -/
theorem State.Inv.isChain_of_sep2 {s : State} (hinv : s.Inv) (hphase : s.phase = .sep2) :
    [s.startIdx, s.aIdx[0], s.aIdx[1], s.aIdx[2], s.aIdx[3], s.aIdx[4], s.aIdx[5], s.aIdx[6], s.dIdx, s.s1Idx,
      s.vIdx[0], s.vIdx[1], s.vIdx[2], s.vIdx[3], s.vIdx[4], s.vIdx[5], s.vIdx[6], s.vIdx[7], s.idx].IsChain
      (· < ·) := by
  have hinc := hinv.increasing
  simp only [State.captured, hphase, toList_eq_ofFn] at hinc
  exact List.isChain_iff_pairwise.mpr hinc

/-- R221, R228: where the captured indices increase up to the current sample, every record of the frame has a non-empty
window between the start condition and the current sample. -/
theorem State.Inv.window_of_mem_frameRecords {s : State} (hinv : s.Inv) (hphase : s.phase = .sep2) (f : Frame)
    (act : Option Action) :
    ∀ r ∈ s.frameRecords f act, r.start < r.stop ∧ s.startIdx ≤ r.start ∧ r.stop ≤ s.idx + 1 := by
  have hchain := hinv.isChain_of_sep2 hphase
  simp only [List.isChain_cons_cons, List.isChain_singleton, and_true] at hchain
  have haction : ∀ r ∈ s.actionRecords act, r.start < r.stop ∧ s.startIdx ≤ r.start ∧ r.stop ≤ s.idx + 1 := by
    cases act <;> simp
    omega
  rw [State.frameRecords_eq, frameRecordsInOrder]
  simp only [List.append_nil, List.forall_mem_append, List.forall_mem_cons]
  refine ⟨?_, haction⟩
  cases f.dir <;> simp
  all_goals omega

/-- R224, R226, R227: the windows of the address bits, the direction and separator-1 follow one another. -/
theorem State.Inv.pairwise_bitLevel {s : State} (hinv : s.Inv) (hphase : s.phase = .sep2) (f : Frame)
    (act : Option Action) :
    (((s.frameRecords f act).take 11).filter
      (fun r => r.cls = .bit ∨ r.cls = .direction ∨ r.cls = .separator)).Pairwise (fun p q => p.stop ≤ q.start) := by
  have hchain := hinv.isChain_of_sep2 hphase
  simp only [List.isChain_cons_cons, List.isChain_singleton, and_true] at hchain
  rw [frameRecordsInOrder]
  simp
  omega

/-! ### The statements -/

/-- Settles O50. -/
theorem resetMeetsTheInvariant : Obligations.ResetMeetsTheInvariant := State.reset_inv

/-- Settles O51, event by event: only a sample moves a register the invariant reads. -/
theorem stepKeepsTheInvariant : Obligations.StepKeepsTheInvariant := by
  intro s t hinv h
  obtain ⟨-, rfl⟩ | ⟨x, rest, -, rfl⟩ | ⟨r, rest, -, -, -, rfl⟩ | ⟨x, rest, -, hsample⟩ := step_cases h
  · exact hinv.withSupply s.input s.sampleRate
  · exact State.reset_inv.withSupply rest none
  · exact hinv.withSupply rest (some r)
  · exact (hinv.withSupply rest s.sampleRate).takeSample hsample

/-- Settles O52: only a commit emits, and it begins in SEP2, where the whole frame is captured in order. -/
theorem emittedWindowsLieInTheFrame : Obligations.EmittedWindowsLieInTheFrame := by
  intro s t x hinv h
  rw [step_supplied] at h
  cases hcommits : s.commits x with
  | true =>
    obtain ⟨-, hphase, -⟩ := (s.commits_eq_true_iff x).mp hcommits
    have hquiet := hinv.withSupply s.input s.sampleRate
    cases (takeSample_of_commits (s := s.quiet) hcommits).symm.trans h
    exact ⟨hquiet.window_of_mem_frameRecords hphase _ _, hquiet.pairwise_bitLevel hphase _ _⟩
  | false =>
    have hrec : t.recPort = [] := (takeSample_sameOutputs_of_not_commits (s := s.quiet) hcommits h).recPort
    simp [hrec]

end Sys2Proof.Machine

/-! PROOFS of the family other, what the step does not read and what a run is made of: the registers that no phase
reads, the shadow file, runs as chains of single samples, and the statements O46 to O49, O53 and O54. -/

namespace Sys2Proof.Machine

/-- R253: the operation of ADDR in the unreachable state. -/
theorem exec_condAddr_of_seven (d : Bool) {s : State} (h : s.bitCnt = 7#3) :
    exec (.condAddr d) s = .next s.raiseFault := by
  simp [exec, execCondAddr, h]

/-! ### The registers that no phase's operation reads -/

/-- The previous sample, the stored sample rate and the host's supply taken from another state: what no operation of a
phase reads or writes. -/
def State.withUnread (s r : State) : State :=
  { s with prevD := r.prevD, prevC := r.prevC, sampleRate := r.sampleRate, input := r.input }

theorem State.countBit_withUnread (s r : State) (last : BitVec 3) (more done : Phase) :
    (s.withUnread r).countBit last more done = (s.countBit last more done).withUnread r := by
  simp only [State.countBit_eq, State.withUnread]

theorem exec_condInstr_withUnread (p : Phase) (d : Bool) (s r : State) :
    exec (condInstr p d) (s.withUnread r) = onNext (exec (condInstr p d) s) (·.withUnread r) := by
  cases p with
  | addr =>
    by_cases hcnt : s.bitCnt = 7#3
    · simp only [condInstr, exec_condAddr_of_seven d hcnt, exec_condAddr_of_seven d (s := s.withUnread r) hcnt]
      rfl
    · simp only [condInstr, exec_condAddr d s hcnt, exec_condAddr d (s.withUnread r) hcnt, onNext_next,
        ← State.countBit_withUnread]
      rfl
  | valW | valRSkip =>
    simp only [condInstr, exec_condValW, exec_condValRSkip, onNext_next, ← State.countBit_withUnread]
    rfl
  | awaitStart | dir | sep1 | valRFall | sep2 => rfl

/-- R148: where the phase's condition does not tell the two states apart, neither does the step of the sample. -/
theorem takeSample_withUnread {s r : State} {x : Sample}
    (hcond : (s.withUnread r).conditionHolds x = s.conditionHolds x) :
    (s.withUnread r).takeSample x =
      onNext (s.takeSample x) (fun t => { t with sampleRate := r.sampleRate, input := r.input }) := by
  have hfault : (s.withUnread r).fault = s.fault := rfl
  have hreach : (s.withUnread r).unreachable = s.unreachable := rfl
  have hphase : (s.withUnread r).phase = s.phase := rfl
  obtain ⟨u, hu⟩ := exec_condInstr_total s.phase x.d s
  simp only [takeSample_eq, hfault, hreach, hcond, hphase, exec_condInstr_withUnread, hu]
  split_ifs <;> rfl

/-- R80: what the host supplies later does not reach the step of a sample. -/
theorem takeSample_withInput (s : State) (rest : List HostEvent) (x : Sample) :
    State.takeSample { s with input := rest } x = onNext (s.takeSample x) (fun t => { t with input := rest }) := by
  obtain ⟨u, hu, hsame⟩ := exists_takeSample_eq_advance s x
  have hstep := takeSample_withUnread (s := s) (r := { s with input := rest }) (x := x) rfl
  rw [hu] at hstep ⊢
  refine hstep.trans ?_
  simp only [onNext_next, ← hsame.sampleRate]
  rfl

/-! ### The shadow file -/

/-- The session with other contents of the shadow file (R35, R36). -/
def Session.withShadow (ses : Session) (sh : Vector (Lanes Byte) 8) (sv : Vector (Lanes Bool) 8) : Session :=
  { ses with shadow := sh, shadowValid := sv }

/-- The state with other contents of the shadow file. -/
def State.withShadow (s : State) (sh : Vector (Lanes Byte) 8) (sv : Vector (Lanes Bool) 8) : State :=
  { s with session := s.session.withShadow sh sv }

/-- R170: no entry of the classifier reads the shadow file but to replace a lane of it. -/
theorem exists_classifyEntry_withShadow (i : Instr) (ses : Session) (sh : Vector (Lanes Byte) 8)
    (sv : Vector (Lanes Bool) 8) :
    ∃ sh' sv', classifyEntry i (ses.withShadow sh sv) =
      ⟨(classifyEntry i ses).act, (classifyEntry i ses).session.withShadow sh' sv'⟩ := by
  cases i
  all_goals exact ⟨_, _, rfl⟩

theorem State.countBit_withShadow (s : State) (sh : Vector (Lanes Byte) 8) (sv : Vector (Lanes Bool) 8)
    (last : BitVec 3) (more done : Phase) :
    (s.withShadow sh sv).countBit last more done = (s.countBit last more done).withShadow sh sv := by
  simp only [State.countBit_eq, State.withShadow]

theorem exists_exec_condInstr_withShadow (p : Phase) (d : Bool) (s : State) (sh : Vector (Lanes Byte) 8)
    (sv : Vector (Lanes Bool) 8) :
    ∃ t sh' sv', exec (condInstr p d) s = .next t ∧
      exec (condInstr p d) (s.withShadow sh sv) = .next (t.withShadow sh' sv') := by
  cases p with
  | addr =>
    by_cases hcnt : s.bitCnt = 7#3
    · exact ⟨_, sh, sv, exec_condAddr_of_seven d hcnt, exec_condAddr_of_seven d (s := s.withShadow sh sv) hcnt⟩
    · exact ⟨_, sh, sv, exec_condAddr d s hcnt, by
        rw [← State.countBit_withShadow]; exact exec_condAddr d (s.withShadow sh sv) hcnt⟩
  | valW => exact ⟨_, sh, sv, exec_condValW d s, by rw [← State.countBit_withShadow]; rfl⟩
  | valRSkip => exact ⟨_, sh, sv, exec_condValRSkip d s, by rw [← State.countBit_withShadow]; rfl⟩
  | awaitStart | dir | sep1 | valRFall => exact ⟨_, sh, sv, rfl, rfl⟩
  | sep2 =>
    obtain ⟨sh', sv', hclassify⟩ :=
      exists_classifyEntry_withShadow (entryOf (s.transaction (s.frame d))) s.session sh sv
    refine ⟨_, sh', sv', exec_condSep2 d s, (exec_condSep2 d (s.withShadow sh sv)).trans ?_⟩
    exact congrArg (fun k => Host.Outcome.next ((s.withShadow sh sv).commit (s.frame d) k)) hclassify

/-- R148: the step of a sample carries a change of the shadow file into the shadow file, and nowhere else. -/
theorem exists_takeSample_withShadow (s : State) (x : Sample) (sh : Vector (Lanes Byte) 8)
    (sv : Vector (Lanes Bool) 8) :
    ∃ t sh' sv', s.takeSample x = .next t ∧ (s.withShadow sh sv).takeSample x = .next (t.withShadow sh' sv') := by
  have hfault : (s.withShadow sh sv).fault = s.fault := rfl
  have hreach : (s.withShadow sh sv).unreachable = s.unreachable := rfl
  have hcond : (s.withShadow sh sv).conditionHolds x = s.conditionHolds x := rfl
  have hphase : (s.withShadow sh sv).phase = s.phase := rfl
  obtain ⟨u, sh', sv', hu, hu'⟩ := exists_exec_condInstr_withShadow s.phase x.d s sh sv
  simp only [takeSample_eq, hfault, hreach, hcond, hphase, hu, hu']
  split_ifs
  · exact ⟨_, sh, sv, rfl, rfl⟩
  · exact ⟨_, sh, sv, rfl, rfl⟩
  · exact ⟨_, sh', sv', rfl, rfl⟩
  · exact ⟨_, sh, sv, rfl, rfl⟩

/-! ### What reaches no output: the statements -/

/-- Settles O47: no phase reads the sample rate, and no condition either. -/
theorem sampleRateHasNoEffect : Obligations.SampleRateHasNoEffect := by
  intro s x r
  rw [step_supplied, step_supplied]
  obtain ⟨u, hu, hsame⟩ := exists_takeSample_eq_advance s.quiet x
  have hstep := takeSample_withUnread (s := s.quiet) (r := { s.quiet with sampleRate := r }) (x := x) rfl
  rw [hu] at hstep ⊢
  refine hstep.trans ?_
  simp only [onNext_next, ← hsame.input]
  rfl

/-- Settles O48: both steps differ as the states did, in the shadow file. -/
theorem shadowReachesNoOutput : Obligations.ShadowReachesNoOutput := by
  intro s t u x sh sv ht hu
  rw [step_supplied] at ht hu
  obtain ⟨t', sh', sv', ht', hu'⟩ := exists_takeSample_withShadow s.quiet x sh sv
  cases ht'.symm.trans ht
  cases hu'.symm.trans hu
  rfl

/-- Without a previous sample no condition reads its bits: an edge fails, a level and the skip do not ask. -/
theorem conditionHolds_withUnread_of_first {s : State} (r : State) (x : Sample) (hfirst : s.prevValid = false) :
    (s.withUnread r).conditionHolds x = s.conditionHolds x := by
  have hfirst' : (s.withUnread r).prevValid = false := hfirst
  have hphase : (s.withUnread r).phase = s.phase := rfl
  simp only [State.conditionHolds, hphase, hfirst, hfirst']
  cases s.phase <;> rfl

/-- Settles O49: `conditionHolds_withUnread_of_first`, and the edge detector's update overwrites both bits. -/
theorem previousSampleIsUnreadBeforeTheFirst : Obligations.PreviousSampleIsUnreadBeforeTheFirst := by
  intro s x d c hfirst
  rw [step_supplied, step_supplied]
  obtain ⟨u, hu, hsame⟩ := exists_takeSample_eq_advance s.quiet x
  have hstep := takeSample_withUnread (s := s.quiet) (r := { s.quiet with prevD := d, prevC := c })
    (conditionHolds_withUnread_of_first _ x hfirst)
  rw [hu] at hstep ⊢
  refine hstep.trans ?_
  simp only [onNext_next, ← hsame.input, ← hsame.sampleRate]
  rfl

/-! ### A run, sample by sample (R60, R264) -/

/-- The outputs of a run that begins with a step to `t`: what `t` shows on the ports, then those of the rest. -/
def RunOutputs.after (t : State) (o : RunOutputs) : RunOutputs :=
  ⟨o.final, t.txPort.toList ++ o.delivered, t.recPort ++ o.emitted⟩

/-- The outputs of a run and of the run that goes on from its end. -/
def RunOutputs.append (o p : RunOutputs) : RunOutputs :=
  ⟨p.final, o.delivered ++ p.delivered, o.emitted ++ p.emitted⟩

theorem runSamples_nil (s : State) : runSamples s [] = some ⟨{ s with input := [] }, [], []⟩ := rfl

/-- R10: the run of a sample and more is the step of that sample and the run of the rest. -/
theorem runSamples_cons {s t : State} {x : Sample} (h : step (s.supplied x) = .next t) (xs : List Sample) :
    runSamples s (x :: xs) = (runSamples t xs).map (RunOutputs.after t) := by
  have hstep : step { s with input := supply (x :: xs) } = .next { t with input := supply xs } := by
    have hinput := takeSample_withInput s.quiet (supply xs) x
    rw [step_supplied] at h
    rw [h] at hinput
    exact hinput
  simp only [runSamples, List.length_cons, runOutputs, hstep]
  cases runOutputs xs.length { t with input := supply xs } <;> rfl

/-- The step of a sample answers a next state (R250). -/
theorem exists_step_supplied (s : State) (x : Sample) : ∃ t, step (s.supplied x) = .next t :=
  takeSample_total s.quiet x

/-- R250: every run of samples completes. -/
theorem exists_runSamples (xs : List Sample) (s : State) : ∃ o, runSamples s xs = some o := by
  induction xs generalizing s with
  | nil => exact ⟨_, runSamples_nil s⟩
  | cons x xs ih =>
    obtain ⟨t, ht⟩ := exists_step_supplied s x
    obtain ⟨o, ho⟩ := ih t
    exact ⟨o.after t, by rw [runSamples_cons ht, ho, Option.map_some]⟩

/-- A run that completes and begins with a sample: its first step and the run of the rest. -/
theorem exists_of_runSamples_cons {s : State} {x : Sample} {xs : List Sample} {o : RunOutputs}
    (h : runSamples s (x :: xs) = some o) :
    ∃ t p, step (s.supplied x) = .next t ∧ runSamples t xs = some p ∧ o = p.after t := by
  obtain ⟨t, ht⟩ := exists_step_supplied s x
  obtain ⟨p, hp⟩ := exists_runSamples xs t
  rw [runSamples_cons ht, hp, Option.map_some] at h
  exact ⟨t, p, ht, hp, (Option.some.inj h).symm⟩

/-- A run of two parts is the run of the first and, from its end, the run of the second. -/
theorem runSamples_append {xs ys : List Sample} {s : State} {o p : RunOutputs} (ho : runSamples s xs = some o)
    (hp : runSamples o.final ys = some p) : runSamples s (xs ++ ys) = some (o.append p) := by
  induction xs generalizing s o with
  | nil =>
    obtain rfl := Option.some.inj ho
    exact hp
  | cons x xs ih =>
    obtain ⟨t, q, ht, hq, rfl⟩ := exists_of_runSamples_cons ho
    rw [List.cons_append, runSamples_cons ht, ih hq hp]
    simp [RunOutputs.after, RunOutputs.append]

/-! ### Runs that deliver nothing -/

/-- R83, R147, R222: a step that presents no transaction emits no record and keeps the session. -/
theorem sameOutputs_of_step_txPort_none {s t : State} {x : Sample} (h : step (s.supplied x) = .next t)
    (hnone : t.txPort = none) : t.recPort = [] ∧ t.session = s.session := by
  cases hcommits : s.commits x with
  | true =>
    cases (takeSample_of_commits (s := s.quiet) hcommits).symm.trans h
    cases hnone
  | false =>
    have hsame := takeSample_sameOutputs_of_not_commits (s := s.quiet) hcommits h
    exact ⟨hsame.recPort, hsame.session⟩

/-- Settles O54, by induction on the samples: nothing delivered in all is nothing delivered in the first step and
nothing in the rest. -/
theorem truncatedFrameProducesNothing : Obligations.TruncatedFrameProducesNothing := by
  intro xs
  induction xs with
  | nil =>
    rintro s o ho -
    obtain rfl := Option.some.inj ho
    exact ⟨rfl, rfl⟩
  | cons x xs ih =>
    intro s o ho hdelivered
    obtain ⟨t, p, ht, hp, rfl⟩ := exists_of_runSamples_cons ho
    obtain ⟨htx, hrest⟩ := List.append_eq_nil_iff.mp hdelivered
    obtain ⟨hrec, hsession⟩ := sameOutputs_of_step_txPort_none ht (Option.toList_eq_nil_iff.mp htx)
    obtain ⟨hemitted, hfinal⟩ := ih t p hp hrest
    exact ⟨by simp [RunOutputs.after, hrec, hemitted], hfinal.trans hsession⟩

/-! ### Runs from a state that meets the invariant -/

theorem State.Inv.withInput {s : State} (h : s.Inv) (rest : List HostEvent) : State.Inv { s with input := rest } :=
  ⟨h.noFault, h.count, h.direction, h.increasing, h.fresh, h.unopened⟩

/-- The invariant does not speak of the supply, to which the sample is added. -/
theorem State.Inv.step_supplied {s t : State} {x : Sample} (hinv : s.Inv) (h : step (s.supplied x) = .next t) :
    t.Inv :=
  (hinv.withSupply s.input s.sampleRate).takeSample h

/-- R131: no phase but AWAIT_START writes the index of the start condition. -/
theorem startIdx_of_exec_condInstr {p : Phase} (hp : p ≠ .awaitStart) {d : Bool} {s u : State}
    (h : exec (condInstr p d) s = .next u) : u.startIdx = s.startIdx := by
  cases p with
  | awaitStart => exact absurd rfl hp
  | addr =>
    by_cases hcnt : s.bitCnt = 7#3
    · cases (exec_condAddr_of_seven d hcnt).symm.trans h
      rfl
    · cases (exec_condAddr d s hcnt).symm.trans h
      simp
  | valW | valRSkip =>
    obtain rfl := Host.Outcome.next.inj h
    simp
  | dir | sep1 | valRFall | sep2 => cases h; rfl

/-- The earliest sample that the next delivered frame can begin with: the start of the open frame, or the sample to
come. -/
def State.earliestStart (s : State) : Nat := if s.phase = .awaitStart then s.idx else s.startIdx

/-- R143: an open frame began before the sample to come. -/
theorem State.Inv.startIdx_lt {s : State} (hinv : s.Inv) (hopen : s.phase ≠ .awaitStart) : s.startIdx < s.idx := by
  have hmem : s.startIdx ∈ s.captured := by
    cases hphase : s.phase <;> simp [State.captured, hphase]
    exact hopen hphase
  exact (List.pairwise_append.mp hinv.increasing).2.2 _ hmem _ (List.mem_singleton_self _)

/-- The next frame never begins earlier than it could before the step. -/
theorem State.Inv.earliestStart_le {s t : State} {x : Sample} (hinv : s.Inv) (h : step (s.supplied x) = .next t) :
    s.earliestStart ≤ t.earliestStart := by
  obtain ⟨-, rfl⟩ | ⟨-, u, hu, rfl⟩ :=
    takeSample_cases_of_reachable (s := s.quiet) hinv.noFault hinv.reachable h
  · by_cases hphase : s.phase = .awaitStart <;> simp [State.earliestStart, hphase]
  · have hidx : u.idx = s.idx := (sameSupply_of_exec_condInstr hu).idx
    by_cases hphase : s.phase = .awaitStart
    · rw [State.quiet_phase, hphase] at hu
      cases hu
      simp [State.earliestStart, hphase]
    · have hstart : u.startIdx = s.startIdx := startIdx_of_exec_condInstr (s := s.quiet) hphase hu
      have hbefore := hinv.startIdx_lt hphase
      simp only [State.earliestStart, hphase, State.advance_phase, State.advance_idx, State.advance_startIdx, hidx,
        hstart, if_false]
      split <;> omega

/-- R83, R139: what a step delivers began at the start of the open frame, ends at the current sample, and the next frame
begins after it. -/
theorem State.Inv.window_of_delivered {s t : State} {x : Sample} {tx : Transaction} (hinv : s.Inv)
    (h : step (s.supplied x) = .next t) (htx : tx ∈ t.txPort.toList) :
    tx.startSample = s.earliestStart ∧ tx.startSample < tx.endSample ∧ tx.endSample = s.idx ∧
      s.idx < t.earliestStart := by
  cases hcommits : s.commits x with
  | true =>
    obtain ⟨-, hphase, -⟩ := (s.commits_eq_true_iff x).mp hcommits
    have hopen : s.phase ≠ .awaitStart := by simp [hphase]
    cases (takeSample_of_commits (s := s.quiet) hcommits).symm.trans h
    obtain rfl : tx = s.quiet.transaction (s.quiet.frame x.d) := by simpa using htx
    exact ⟨by simp [State.earliestStart, hphase, State.transaction], hinv.startIdx_lt hopen, rfl,
      by simp [State.earliestStart]⟩
  | false =>
    have hnone : t.txPort = none := (takeSample_sameOutputs_of_not_commits (s := s.quiet) hcommits h).txPort
    simp [hnone] at htx

/-- What every run of samples from a state that meets the invariant comes to: it ends in such a state, and its
transactions follow one another from the earliest start on. -/
structure FramesInOrder (s : State) (n : Nat) (o : RunOutputs) : Prop where
  inv : o.final.Inv
  idx : o.final.idx = s.idx + n
  windows : ∀ tx ∈ o.delivered,
    s.earliestStart ≤ tx.startSample ∧ tx.startSample < tx.endSample ∧ tx.endSample < s.idx + n
  disjoint : o.delivered.Pairwise (fun p q => p.endSample < q.startSample)

theorem State.Inv.framesInOrder {s : State} (hinv : s.Inv) {xs : List Sample} {o : RunOutputs}
    (ho : runSamples s xs = some o) : FramesInOrder s xs.length o := by
  induction xs generalizing s o with
  | nil =>
    obtain rfl := Option.some.inj ho
    exact ⟨hinv.withInput [], rfl, by simp, .nil⟩
  | cons x xs ih =>
    obtain ⟨t, p, ht, hp, rfl⟩ := exists_of_runSamples_cons ho
    have htail := ih (hinv.step_supplied ht) hp
    have hidx : t.idx = s.idx + 1 := by
      obtain ⟨t', ht', -, -, -, hidx, -⟩ := everySampleMovesTheEdgeDetector s x
      cases ht'.symm.trans ht
      exact hidx
    have hle := hinv.earliestStart_le ht
    refine ⟨htail.inv, ?idx, ?windows, ?disjoint⟩
    case idx =>
      have := htail.idx
      rw [List.length_cons]
      exact this.trans (by omega)
    case windows =>
      intro tx htx
      rw [List.length_cons]
      rcases List.mem_append.mp htx with htx | htx
      · obtain ⟨hstart, hlt, hend, -⟩ := hinv.window_of_delivered ht htx
        omega
      · obtain ⟨hstart, hlt, hend⟩ := htail.windows tx htx
        omega
    case disjoint =>
      refine List.pairwise_append.mpr ⟨?_, htail.disjoint, fun tx htx ty hty => ?_⟩
      · cases t.txPort <;> simp
      · obtain ⟨-, -, hend, hnext⟩ := hinv.window_of_delivered ht htx
        obtain ⟨hstart, -, -⟩ := htail.windows ty hty
        omega

/-- Settles O53: `State.Inv.framesInOrder` from reset, where the index is 0. -/
theorem runsFromResetEndCleanWithDisjointFrames : Obligations.RunsFromResetEndCleanWithDisjointFrames := by
  intro xs
  obtain ⟨o, ho⟩ := exists_runSamples xs State.reset
  have hzero : State.reset.idx + xs.length = xs.length := Nat.zero_add _
  obtain ⟨hinv, hidx, hwindows, hdisjoint⟩ := State.reset_inv.framesInOrder ho
  rw [hzero] at hidx hwindows
  exact ⟨o, ho, hinv.noFault, hidx, fun tx htx => (hwindows tx htx).2, hdisjoint⟩

/-- Settles O46: the fault is raised and freezes by the branches of the step, only `rst` restores its register, and no
run from reset leaves the invariant. -/
theorem unreachableStateFreezesTheBlock : Obligations.UnreachableStateFreezesTheBlock := by
  refine ⟨fun s x hfault hphase hcnt => ?raises, fun s x hfault => ?freezes, fun s t hfault h hclear => ?clears,
    fun s hfault hclean => ?unclean, fun xs => ?fromReset⟩
  case raises =>
    have hreach : s.quiet.unreachable = true := by simp [State.unreachable, hphase, hcnt]
    rw [step_supplied, takeSample_eq, State.quiet_fault, hfault, hreach]
    rfl
  case freezes =>
    rw [step_supplied, takeSample_eq, State.quiet_fault, if_pos hfault]
    rfl
  case clears =>
    obtain ⟨-, rfl⟩ | ⟨x, rest, hinput, -⟩ | ⟨r, rest, -, -, -, rfl⟩ | ⟨x, rest, -, hsample⟩ := step_cases h
    · cases hfault.symm.trans hclear
    · exact ⟨x, rest, hinput⟩
    · cases hfault.symm.trans hclear
    · have hfrozen : State.fault { s.quiet with input := rest } = true := hfault
      rw [takeSample_eq, hfrozen, if_pos rfl] at hsample
      cases hsample
      cases hfault.symm.trans hclear
  case unclean => cases hfault.symm.trans hclean
  case fromReset =>
    obtain ⟨o, ho, hclean, -⟩ := runsFromResetEndCleanWithDisjointFrames xs
    exact ⟨o, ho, hclean⟩

end Sys2Proof.Machine

/-! PROOFS of the family other, the waveforms of whole frames (30_encoding.md R85, R86): what each sample, cell and
field of a waveform leaves the block with, and the statements O55 and O56. -/

namespace Sys2Proof.Machine

/-- A clock that stays at 1 has no edge: no phase but AWAIT_START and VAL_R_SKIP takes the sample. -/
theorem not_conditionHolds_of_clock_high {s : State} {x : Sample} (hstart : s.phase ≠ .awaitStart)
    (hskip : s.phase ≠ .valRSkip) (hprev : s.prevC = true) (hclock : x.c = true) : s.conditionHolds x = false := by
  have hprev' : s.prev.on .clock = true := hprev
  have hclock' : x.on .clock = true := hclock
  unfold State.conditionHolds
  cases hphase : s.phase with
  | awaitStart => exact absurd hphase hstart
  | valRSkip => exact absurd hphase hskip
  | addr | dir | sep1 | valW | valRFall | sep2 =>
    simp [conditionTable, specHolds_singleton, constraintHolds, rise, fall, hprev', hclock']

/-! ### Stretches of a run -/

/-- From `s` the samples deliver exactly the transactions and end in a state with the property. -/
def Delivers (s : State) (xs : List Sample) (txs : List Transaction) (P : State → Prop) : Prop :=
  ∃ o, runSamples s xs = some o ∧ o.delivered = txs ∧ P o.final

theorem Delivers.nil {s : State} {P : State → Prop} (h : P { s with input := [] }) : Delivers s [] [] P :=
  ⟨_, runSamples_nil s, rfl, h⟩

/-- One sample. -/
theorem Delivers.step {s t : State} {x : Sample} {P : State → Prop} (h : step (s.supplied x) = .next t)
    (hP : P { t with input := [] }) : Delivers s [x] t.txPort.toList P :=
  ⟨_, by rw [runSamples_cons h, runSamples_nil, Option.map_some], by simp [RunOutputs.after], hP⟩

/-- One stretch after another. -/
theorem Delivers.append {s : State} {xs ys : List Sample} {txs tys : List Transaction} {P Q : State → Prop}
    (h : Delivers s xs txs P) (hnext : ∀ t, P t → Delivers t ys tys Q) : Delivers s (xs ++ ys) (txs ++ tys) Q := by
  obtain ⟨o, ho, rfl, hP⟩ := h
  obtain ⟨p, hp, rfl, hQ⟩ := hnext o.final hP
  exact ⟨o.append p, runSamples_append ho hp, rfl, hQ⟩

/-! ### A block in the middle of a frame -/

/-- What of the open frame its transaction and the session after it depend on. -/
structure OpenFrame where
  startIdx : Nat
  addr : Addr
  dir : Bool
  value : Byte
  session : Session

def State.openFrame (s : State) : OpenFrame := ⟨s.startIdx, s.addr, s.dir, s.value, s.session⟩

/-- The registers of `OpenFrame` after the operation of a phase with the bit `d` at sample `i` (R131 to R137). -/
def OpenFrame.take (o : OpenFrame) (p : Phase) (i : Nat) (d : Bool) : OpenFrame :=
  match p with
  | .awaitStart => { o with startIdx := i, addr := 0#7 }
  | .addr => { o with addr := shiftIn o.addr d }
  | .dir => { o with dir := d }
  | .sep1 => { o with value := 0#8 }
  | .valW | .valRSkip => { o with value := shiftIn o.value d }
  | .valRFall | .sep2 => o

theorem openFrame_of_exec_condInstr {p : Phase} {d : Bool} {s u : State} (hsep2 : p ≠ .sep2)
    (hcnt : p = .addr → s.bitCnt ≠ 7#3) (h : exec (condInstr p d) s = .next u) :
    u.openFrame = s.openFrame.take p s.idx d := by
  cases p with
  | addr =>
    cases (exec_condAddr d s (hcnt rfl)).symm.trans h
    simp [State.openFrame, OpenFrame.take]
  | valW | valRSkip =>
    obtain rfl := Host.Outcome.next.inj h
    simp [State.openFrame, OpenFrame.take]
  | sep2 => exact absurd rfl hsep2
  | awaitStart | dir | sep1 | valRFall => cases h; rfl

/-- The block waits for the sample `i` at a phase and count, the clock was at level `c` before, and it holds the open
frame `o`. -/
structure State.At (s : State) (place : Phase × BitVec 3) (i : Nat) (c : Bool) (o : OpenFrame) : Prop where
  fault : s.fault = false
  prevValid : s.prevValid = true
  prevC : s.prevC = c
  pos : (s.phase, s.bitCnt) = place
  legal : place ≠ (Phase.addr, 7#3)
  idx : s.idx = i
  openFrame : s.openFrame = o

/-- R253: the transition table does not lead into the unreachable state. -/
theorem transition_ne_unreachable {p : Phase} {cnt : BitVec 3} (h : (p, cnt) ≠ (.addr, 7#3)) (dir : Bool) :
    transition p cnt dir ≠ (.addr, 7#3) := by
  cases p with
  | addr =>
    have hcnt : cnt ≠ 7#3 := by simpa using h
    by_cases hlast : cnt = 6#3
    · simp [transition, hlast]
    · have hnext : cnt + 1#3 ≠ 7#3 := by bv_omega
      simp [transition, hlast, hnext]
  | valW | valRSkip => by_cases hlast : cnt = 7#3 <;> simp [transition, hlast]
  | sep1 => cases dir <;> simp [transition]
  | awaitStart | dir | valRFall | sep2 => simp [transition]

section
variable {s : State} {p : Phase} {cnt : BitVec 3} {i : Nat} {c : Bool} {o : OpenFrame}

theorem State.At.phase_eq (h : s.At (p, cnt) i c o) : s.phase = p := congrArg Prod.fst h.pos

theorem State.At.bitCnt_eq (h : s.At (p, cnt) i c o) : s.bitCnt = cnt := congrArg Prod.snd h.pos

theorem State.At.bitCnt_ne_seven (h : s.At (p, cnt) i c o) (hp : p = .addr) : s.bitCnt ≠ 7#3 := by
  rw [h.bitCnt_eq]
  rintro rfl
  exact h.legal (by rw [hp])

theorem State.At.reachable (h : s.At (p, cnt) i c o) : s.unreachable = false := by
  by_cases hp : p = .addr
  · simp [State.unreachable, h.bitCnt_ne_seven hp]
  · simp [State.unreachable, h.phase_eq, hp]

/-! ### One sample -/

/-- A sample that does not meet the condition moves the edge detector and the index only. -/
theorem State.At.discard (h : s.At (p, cnt) i c o) {x : Sample} (hcond : s.conditionHolds x = false) :
    Delivers s [x] [] (·.At (p, cnt) (i + 1) x.c o) := by
  have hstep := sampleRunsItsPhaseOrIsDiscarded s x h.fault h.reachable
  rw [hcond, if_neg Bool.false_ne_true] at hstep
  exact .step hstep ⟨h.fault, rfl, rfl, h.pos, h.legal, congrArg (· + 1) h.idx, h.openFrame⟩

/-- A sample that meets the condition moves the phase along the transition table and the bit into the open frame. -/
theorem State.At.take (h : s.At (p, cnt) i c o) (hsep2 : p ≠ .sep2) {x : Sample} (hcond : s.conditionHolds x = true) :
    Delivers s [x] [] (·.At (transition p cnt o.dir) (i + 1) x.c (o.take p i x.d)) := by
  have hstep := sampleRunsItsPhaseOrIsDiscarded s x h.fault h.reachable
  obtain ⟨u, hu, hmove⟩ := exec_condInstr_transition p x.d s.quiet h.bitCnt_ne_seven
  obtain ⟨v, hv, houtputs⟩ := exec_condInstr_sameOutputs hsep2 x.d s.quiet
  cases hv.symm.trans hu
  have hfault : u.fault = s.fault := fault_of_exec_condInstr (s := s.quiet) h.bitCnt_ne_seven hu
  have hidx : u.idx = s.idx := (sameSupply_of_exec_condInstr hu).idx
  have hopen := openFrame_of_exec_condInstr (s := s.quiet) hsep2 h.bitCnt_ne_seven hu
  have hdir : s.dir = o.dir := congrArg OpenFrame.dir h.openFrame
  have htx : (u.advance x).txPort.toList = [] := by simp [houtputs.txPort]
  rw [hcond, if_pos rfl, h.phase_eq, hu] at hstep
  rw [← htx]
  refine .step hstep ⟨hfault.trans h.fault, rfl, rfl, ?pos, transition_ne_unreachable h.legal _, ?idx, ?openFrame⟩
  case pos =>
    rw [← hdir, ← h.bitCnt_eq]
    exact hmove
  case idx => exact congrArg (· + 1) (hidx.trans h.idx)
  case openFrame =>
    rw [← h.openFrame, ← h.idx]
    exact hopen

theorem State.At.conditionHolds_rise (h : s.At (p, cnt) i c o)
    (hrow : conditionTable p = .constraints [(.clock, .rising)]) (x : Sample) :
    s.conditionHolds x = (!c && x.c) := by
  rw [State.conditionHolds, h.phase_eq, hrow, specHolds_singleton, h.prevValid, ← h.prevC]
  rfl

theorem State.At.conditionHolds_fall (h : s.At (.valRFall, cnt) i c o) (x : Sample) :
    s.conditionHolds x = (c && !x.c) := by
  rw [State.conditionHolds, h.phase_eq, conditionTable, specHolds_singleton, h.prevValid, ← h.prevC]
  rfl

theorem State.At.conditionHolds_skip (h : s.At (.valRSkip, cnt) i c o) (x : Sample) : s.conditionHolds x = true := by
  rw [State.conditionHolds, h.phase_eq]
  rfl

/-! ### A cell -/

/-- The low half of a cell is discarded where the clock's rise is awaited. -/
theorem State.At.lowHalf (h : s.At (p, cnt) i c o) (hrow : conditionTable p = .constraints [(.clock, .rising)])
    (b : Bool) : Delivers s [⟨b, false⟩, ⟨b, false⟩] [] (·.At (p, cnt) (i + 2) false o) :=
  (h.discard (x := ⟨b, false⟩) (by simp [h.conditionHolds_rise hrow])).append fun _ ht =>
    ht.discard (x := ⟨b, false⟩) (ht.conditionHolds_rise hrow _)

/-- Where an edge of the clock is awaited, a second sample of a high clock is discarded. -/
theorem State.At.highSample (h : s.At (p, cnt) i true o) (hstart : p ≠ .awaitStart) (hskip : p ≠ .valRSkip) (b : Bool) :
    Delivers s [⟨b, true⟩] [] (·.At (p, cnt) (i + 1) true o) := by
  rw [← h.phase_eq] at hstart hskip
  exact h.discard (x := ⟨b, true⟩) (not_conditionHolds_of_clock_high hstart hskip h.prevC rfl)

/-- R86: in a phase that awaits the clock's rise, a cell is its bit taken at the cell's third sample. -/
theorem State.At.cell (h : s.At (p, cnt) i c o) (hrow : conditionTable p = .constraints [(.clock, .rising)])
    (hsep2 : p ≠ .sep2) (b : Bool) :
    Delivers s (cell b) [] (·.At (transition p cnt o.dir) (i + 4) true (o.take p (i + 2) b)) := by
  refine (h.lowHalf hrow b).append fun t ht => ?_
  refine (ht.take hsep2 (x := ⟨b, true⟩) (ht.conditionHolds_rise hrow _)).append fun u hu => ?_
  obtain ⟨hstart, hskip⟩ : (transition p cnt o.dir).1 ≠ .awaitStart ∧ (transition p cnt o.dir).1 ≠ .valRSkip := by
    cases p with
    | awaitStart | valRFall | valRSkip => cases hrow
    | sep2 => exact absurd rfl hsep2
    | addr | valW => simp only [transition]; split <;> simp
    | sep1 => cases o.dir <;> simp [transition]
    | dir => simp [transition]
  exact State.At.highSample hu hstart hskip b

/-- R136, R137: in VAL_R_FALL the two low samples of a cell are the fall and, one sample later, the bit. -/
theorem State.At.readBit (h : s.At (.valRFall, cnt) i true o) (b : Bool) :
    Delivers s [⟨b, false⟩, ⟨b, false⟩] []
      (·.At (transition .valRSkip cnt o.dir) (i + 2) false (o.take .valRSkip (i + 1) b)) :=
  (h.take (x := ⟨b, false⟩) (by decide) (h.conditionHolds_fall _)).append fun _ ht =>
    State.At.take ht (x := ⟨b, false⟩) (by decide) (State.At.conditionHolds_skip ht _)

/-- A cell in VAL_R_FALL whose bit is not the last of the value. -/
theorem State.At.readCell (h : s.At (.valRFall, cnt) i true o) (hcnt : cnt ≠ 7#3) (b : Bool) :
    Delivers s (Machine.cell b) []
      (·.At (.valRFall, cnt + 1#3) (i + 4) true (o.take .valRSkip (i + 1) b)) := by
  have hbit := h.readBit b
  simp only [transition, hcnt, if_false] at hbit
  refine hbit.append fun t ht => ?_
  refine (ht.discard (x := ⟨b, true⟩) (ht.conditionHolds_fall _)).append fun u hu => ?_
  exact hu.highSample (by decide) (by decide) b

end

/-! ### The fields of a frame -/

/-- Cells whose bits one after another go into the open frame by `f`, with the place after `k` of them given by
`place`. -/
theorem delivers_cells {place : Nat → Phase × BitVec 3} {f : OpenFrame → Bool → OpenFrame} {n : Nat}
    (hcell : ∀ (k : Nat) (s : State) (i : Nat) (o : OpenFrame) (b : Bool), k < n → s.At (place k) i true o →
      Delivers s (cell b) [] (·.At (place (k + 1)) (i + 4) true (f o b)))
    (bs : List Bool) {k : Nat} (hk : k + bs.length ≤ n) {s : State} {i : Nat} {o : OpenFrame}
    (h : s.At (place k) i true o) :
    Delivers s (cells bs) [] (·.At (place (k + bs.length)) (i + 4 * bs.length) true (bs.foldl f o)) := by
  induction bs generalizing k s i o with
  | nil => exact .nil ⟨h.fault, h.prevValid, h.prevC, h.pos, h.legal, h.idx, h.openFrame⟩
  | cons b bs ih =>
    rw [List.length_cons] at hk ⊢
    refine (hcell k s i o b (by omega) h).append fun t ht => ?_
    have hrest := ih (k := k + 1) (by omega) ht
    rw [show k + (bs.length + 1) = k + 1 + bs.length by omega,
      show i + 4 * (bs.length + 1) = i + 4 + 4 * bs.length by omega]
    exact hrest

/-- Where the block waits with `k` bits of a field of `n` taken, `n` at most 8. -/
def fieldPlace (bit done : Phase) (n k : Nat) : Phase × BitVec 3 :=
  if k = n then (done, 0#3) else (bit, BitVec.ofNat 3 k)

theorem transition_addr_fieldPlace (dir : Bool) : ∀ k < 7,
    transition .addr (BitVec.ofNat 3 k) dir = fieldPlace .addr .dir 7 (k + 1) := by
  decide +revert

theorem transition_valW_fieldPlace (dir : Bool) : ∀ k < 8,
    transition .valW (BitVec.ofNat 3 k) dir = fieldPlace .valW .sep2 8 (k + 1) := by
  decide +revert

theorem foldl_take_addr (bs : List Bool) (o : OpenFrame) (i : Nat) :
    bs.foldl (fun o b => o.take .addr i b) o = { o with addr := bs.foldl shiftIn o.addr } := by
  induction bs generalizing o with
  | nil => rfl
  | cons b bs ih => exact ih _

theorem foldl_take_value (bs : List Bool) (o : OpenFrame) (i : Nat) :
    bs.foldl (fun o b => o.take .valW i b) o = { o with value := bs.foldl shiftIn o.value } := by
  induction bs generalizing o with
  | nil => rfl
  | cons b bs ih => exact ih _

/-- R52: after `n` bits of a field, sampled most significant first, the shift register holds its `n` high bits. -/
theorem foldl_shiftIn_range {w : Nat} (v : BitVec (w + 1)) {n : Nat} (hn : n ≤ w + 1) :
    (((List.range n).map fun k => v.getLsbD (w + 1 - 1 - k)).foldl shiftIn (0#(w + 1))).toNat =
      v.toNat / 2 ^ (w + 1 - n) := by
  induction n with
  | zero => simp [Nat.div_eq_of_lt v.isLt]
  | succ n ih =>
    have hsplit : v.toNat / 2 ^ (w + 1 - n) = v.toNat / 2 ^ (w + 1 - (n + 1)) / 2 := by
      rw [Nat.div_div_eq_div_mul, ← Nat.pow_succ]
      congr 2; omega
    have hbit : (v.getLsbD (w + 1 - 1 - n)).toNat = v.toNat / 2 ^ (w + 1 - (n + 1)) % 2 := by
      rw [BitVec.getLsbD, Nat.toNat_testBit, show w + 1 - 1 - n = w + 1 - (n + 1) by omega]
    have hlt : v.toNat / 2 ^ (w + 1 - (n + 1)) < 2 ^ (w + 1) := lt_of_le_of_lt (Nat.div_le_self _ _) v.isLt
    rw [List.range_succ, List.map_append, List.foldl_append, List.map_singleton, List.foldl_cons, List.foldl_nil,
      shiftIn_toNat, ih (by omega), hsplit, hbit, Nat.div_add_mod, Nat.mod_eq_of_lt hlt]

/-- R52: the bits of a field in wire order make the field. -/
theorem foldl_shiftIn_wireBits {w : Nat} (v : BitVec (w + 1)) : (wireBits v).foldl shiftIn (0#(w + 1)) = v := by
  apply BitVec.eq_of_toNat_eq
  rw [wireBits, foldl_shiftIn_range v (Nat.le_refl _), Nat.sub_self, Nat.pow_zero, Nat.div_one]

/-- The seven cells of the address. -/
theorem State.At.addressCells {s : State} {i : Nat} {o : OpenFrame} (h : s.At (.addr, 0#3) i true o)
    (hclear : o.addr = 0#7) (a : Addr) :
    Delivers s (cells (wireBits a)) [] (·.At (.dir, 0#3) (i + 28) true { o with addr := a }) := by
  have hcells := delivers_cells (place := fieldPlace .addr .dir 7) (f := fun o b => o.take .addr 0 b) (n := 7)
    (fun k s i o b hk hs => by
      rw [fieldPlace, if_neg hk.ne] at hs
      rw [← transition_addr_fieldPlace o.dir k hk]
      exact hs.cell rfl (by decide) b)
    (wireBits a) (k := 0) (Nat.le_refl _) h
  rw [foldl_take_addr, hclear, foldl_shiftIn_wireBits] at hcells
  exact hcells

/-- The eight cells of a written value. -/
theorem State.At.writtenValueCells {s : State} {i : Nat} {o : OpenFrame} (h : s.At (.valW, 0#3) i true o)
    (hclear : o.value = 0#8) (v : Byte) :
    Delivers s (cells (wireBits v)) [] (·.At (.sep2, 0#3) (i + 32) true { o with value := v }) := by
  have hcells := delivers_cells (place := fieldPlace .valW .sep2 8) (f := fun o b => o.take .valW 0 b) (n := 8)
    (fun k s i o b hk hs => by
      rw [fieldPlace, if_neg hk.ne] at hs
      rw [← transition_valW_fieldPlace o.dir k hk]
      exact hs.cell rfl (by decide) b)
    (wireBits v) (k := 0) (Nat.le_refl _) h
  rw [foldl_take_value, hclear, foldl_shiftIn_wireBits] at hcells
  exact hcells

/-- The first seven cells of a read value. -/
theorem State.At.readValueCells {s : State} {i : Nat} {o : OpenFrame} (h : s.At (.valRFall, 0#3) i true o) (v : Byte) :
    Delivers s (cells ((wireBits v).take 7)) []
      (·.At (.valRFall, 7#3) (i + 28) true { o with value := ((wireBits v).take 7).foldl shiftIn o.value }) := by
  have hcells := delivers_cells (place := fun k => (.valRFall, BitVec.ofNat 3 k))
    (f := fun o b => o.take .valRSkip 0 b) (n := 7)
    (fun k s i o b hk hs => by
      have hcnt : BitVec.ofNat 3 k ≠ 7#3 := by bv_omega
      have hnext : BitVec.ofNat 3 k + 1#3 = BitVec.ofNat 3 (k + 1) := by bv_omega
      rw [← hnext]
      exact hs.readCell hcnt b)
    ((wireBits v).take 7) (k := 0) (Nat.le_refl _) h
  rw [← foldl_take_value _ o 0]
  exact hcells

/-! ### The ends of a frame -/

/-- The block waits for a start condition at sample `i` after data 1 and clock high, in a session. -/
structure State.Ready (s : State) (i : Nat) (ses : Session) : Prop where
  fault : s.fault = false
  phase : s.phase = .awaitStart
  prevValid : s.prevValid = true
  prev : s.prev = ⟨true, true⟩
  idx : s.idx = i
  session : s.session = ses

/-- R131: the start sample opens the frame. -/
theorem State.Ready.start {s : State} {i : Nat} {ses : Session} (h : s.Ready i ses) :
    Delivers s [⟨false, true⟩] []
      (·.At (.addr, 0#3) (i + 1) true ⟨i, 0#7, s.dir, s.value, ses⟩) := by
  have hat : s.At (.awaitStart, s.bitCnt) i true ⟨s.startIdx, s.addr, s.dir, s.value, ses⟩ :=
    ⟨h.fault, h.prevValid, congrArg Sample.c h.prev, by rw [h.phase], by simp, h.idx, by rw [← h.session]; rfl⟩
  refine hat.take (x := ⟨false, true⟩) (by decide) ?_
  rw [State.conditionHolds, h.phase, h.prevValid, h.prev]
  rfl

/-- A sample of the idle bus is no start condition. -/
theorem State.Ready.idleSample {s : State} {i : Nat} {ses : Session} (h : s.Ready i ses) :
    Delivers s [⟨true, true⟩] [] (·.Ready (i + 1) ses) := by
  have hcond : s.conditionHolds ⟨true, true⟩ = false := by
    rw [State.conditionHolds, h.phase, h.prevValid, h.prev]
    rfl
  have hreach : s.unreachable = false := by simp [State.unreachable, h.phase]
  have hstep := sampleRunsItsPhaseOrIsDiscarded s ⟨true, true⟩ h.fault hreach
  rw [hcond, if_neg Bool.false_ne_true] at hstep
  exact .step hstep ⟨h.fault, h.phase, rfl, rfl, congrArg (· + 1) h.idx, h.session⟩

/-- The transaction of an open frame whose separator-2 is sampled at `i` (R139). -/
def OpenFrame.transaction (o : OpenFrame) (i : Nat) : Transaction :=
  ⟨o.addr, directionOfBit o.dir, o.value, o.startIdx, i⟩

/-- R138 to R140: the high half of a cell of 1 at separator-2 commits the frame, and its second sample is idle. -/
theorem State.At.close {s : State} {cnt : BitVec 3} {i : Nat} {o : OpenFrame} (h : s.At (.sep2, cnt) i false o) :
    Delivers s [⟨true, true⟩, ⟨true, true⟩] [o.transaction i]
      (·.Ready (i + 2) (classify (o.transaction i) o.session).session) := by
  have htx : s.quiet.transaction (s.quiet.frame true) = o.transaction i := by
    rw [← h.openFrame, ← h.idx]
    rfl
  have hsession : s.quiet.session = o.session := congrArg OpenFrame.session h.openFrame
  have hcommits : s.quiet.commits ⟨true, true⟩ = true := by
    refine (s.quiet.commits_eq_true_iff _).mpr ⟨h.fault, h.phase_eq, ?_⟩
    simp [State.rises, rise, State.prev, Sample.on, h.prevValid, h.prevC]
  have hstep := (step_supplied s ⟨true, true⟩).trans (takeSample_of_commits hcommits)
  rw [hsession, htx] at hstep
  have hcommit : Delivers s [⟨true, true⟩] [o.transaction i]
      (·.Ready (i + 1) (classify (o.transaction i) o.session).session) := by
    rw [← htx] at hstep ⊢
    exact .step hstep ⟨h.fault, rfl, rfl, rfl, congrArg (· + 1) h.idx, rfl⟩
  exact hcommit.append fun t ht => ht.idleSample

/-! ### The waveform of a frame -/

/-- The samples of a frame from its start to separator-1, the same in both directions. -/
def frameHead (dir : Direction) (a : Addr) : List Sample :=
  [⟨false, true⟩] ++ cells (wireBits a) ++ cell (directionBit dir) ++ cell true

theorem State.Ready.frameHead {s : State} {i : Nat} {ses : Session} (h : s.Ready i ses) (dir : Direction) (a : Addr) :
    Delivers s (frameHead dir a) []
      (·.At (if directionBit dir then .valRFall else .valW, 0#3) (i + 37) true ⟨i, a, directionBit dir, 0#8, ses⟩) := by
  have haddr : Delivers s ([⟨false, true⟩] ++ cells (wireBits a)) []
      (·.At (.dir, 0#3) (i + 29) true ⟨i, a, s.dir, s.value, ses⟩) :=
    h.start.append fun t ht => ht.addressCells rfl a
  have hdir : Delivers s ([⟨false, true⟩] ++ cells (wireBits a) ++ cell (directionBit dir)) []
      (·.At (.sep1, 0#3) (i + 33) true ⟨i, a, directionBit dir, s.value, ses⟩) :=
    haddr.append fun t ht => ht.cell rfl (by decide) (directionBit dir)
  exact hdir.append fun t ht => ht.cell rfl (by decide) true

/-- The number of samples of a frame: a Read frame is four shorter (30_encoding.md R86). -/
def waveformLength (dir : Direction) : Nat := if dir = .write then 73 else 69

/-- The transaction of a frame whose start sample is `i`: separator-2 is the last sample but one. -/
def waveformTransaction (dir : Direction) (a : Addr) (v : Byte) (i : Nat) : Transaction :=
  ⟨a, dir, v, i, i + (if dir = .write then 71 else 67)⟩

/-- R85, R86: the waveform of a frame delivers its own transaction and leaves the block ready for the next. -/
theorem State.Ready.waveform {s : State} {i : Nat} {ses : Session} (h : s.Ready i ses) (dir : Direction) (a : Addr)
    (v : Byte) :
    Delivers s (frameMacro dir a v) [waveformTransaction dir a v i]
      (·.Ready (i + waveformLength dir) (classify (waveformTransaction dir a v i) ses).session) := by
  have hhead := h.frameHead dir a
  cases dir with
  | write =>
    have hvalue : Delivers s (Machine.frameHead .write a ++ cells (wireBits v)) []
        (·.At (.sep2, 0#3) (i + 69) true ⟨i, a, false, v, ses⟩) :=
      hhead.append fun t ht => State.At.writtenValueCells ht rfl v
    exact hvalue.append fun t ht => (ht.lowHalf rfl true).append fun u hu => hu.close
  | read =>
    have hbits : Delivers s (Machine.frameHead .read a ++ cells ((wireBits v).take 7)) []
        (·.At (.valRFall, 7#3) (i + 65) true ⟨i, a, true, ((wireBits v).take 7).foldl shiftIn 0#8, ses⟩) :=
      hhead.append fun t ht => State.At.readValueCells ht v
    have hlast : shiftIn (((wireBits v).take 7).foldl shiftIn 0#8) (v.getLsbD 0) = v :=
      foldl_shiftIn_wireBits v
    refine hbits.append fun t ht => ?_
    have hbit := ht.readBit (v.getLsbD 0)
    simp only [OpenFrame.take, hlast] at hbit
    exact hbit.append fun u hu => State.At.close hu

/-! ### The statements -/

/-- Settles O55: a block that waits after data 1 and clock high is ready for the waveform, `State.Ready.waveform`. -/
theorem frameMacroCommitsItsTransaction : Obligations.FrameMacroCommitsItsTransaction := by
  intro dir a v s hfault hphase hvalid hprevD hprevC
  have hready : s.Ready s.idx s.session :=
    ⟨hfault, hphase, hvalid, by rw [State.prev, hprevD, hprevC], rfl, rfl⟩
  obtain ⟨o, ho, hdelivered, hend⟩ := hready.waveform dir a v
  exact ⟨o, ho, hdelivered, hend.session, hend.fault, hend.phase, hend.prevValid, congrArg Sample.d hend.prev,
    congrArg Sample.c hend.prev, hend.idx⟩

/-- R105: the first sample after reset is no edge, and the bus is then idle. -/
theorem delivers_idle_reset : Delivers State.reset (idle 1) [] (·.Ready 1 Session.reset) :=
  .step (t := State.reset.advance ⟨true, true⟩) rfl ⟨rfl, rfl, rfl, rfl, rfl, rfl⟩

/-- Settles O56: after the idle sample the block is ready at index 1. -/
theorem waveformRoundTrip : Obligations.WaveformRoundTrip := by
  intro dir a v
  obtain ⟨o, ho, hdelivered, -⟩ := delivers_idle_reset.append fun t ht => ht.waveform dir a v
  refine ⟨o, ho, hdelivered.trans ?_⟩
  cases dir <;> rfl

end Sys2Proof.Machine

/-! PROOFS of the family other, the decoder and the step, the classifier and the session, and the statements O3, O4, O9,
O10, O22, O24 to O26, O38, O40, O41 and O43. -/

namespace Sys2Proof

/-! ### The condition word -/

theorem packCond_fields (w : CondWord) : packCond (condPrevD w) (condPrevC w) (condD w) (condC w) = w := by
  revert w; decide

/-- The bits of a condition word that belong to a channel: its previous and its current level. -/
def channelMask : Channel → CondWord
  | .data => 0b1010#4
  | .clock => 0b0101#4

/-- A pattern tests no bit outside a set of bits, and asks for no 1 at a bit it does not test. -/
structure CondPattern.Within (p : CondPattern) (m : CondWord) : Prop where
  mask : p.mask &&& m = p.mask
  bits : p.bits &&& p.mask = p.bits

end Sys2Proof

namespace Sys2Proof.Machine

/-! ### The host's event -/

/-- Settles O3: before the first sample and with no rate stored neither refusal applies. -/
theorem configureStoresOnlyTheSampleRate : Obligations.ConfigureStoresOnlyTheSampleRate := by
  intro s r rest hidx hrate
  simp [step, State.nextStep, State.takeEvent, State.configure, State.quiet, hidx, hrate]

/-- Settles O4: the late rate is refused first, so the second is told apart by the index. -/
theorem sampleRateOutsideTheHostTableIsRefused : Obligations.SampleRateOutsideTheHostTableIsRefused := by
  refine fun s r rest => ⟨fun hlate => ?late, fun hidx hrate => ?second⟩
  case late => simp [step, State.nextStep, State.takeEvent, State.configure, hlate]
  case second =>
    obtain ⟨stored, hstored⟩ := Option.ne_none_iff_exists'.mp hrate
    simp [step, State.nextStep, State.takeEvent, State.configure, hidx, hstored]

/-! ### The decoder and the scanner -/

/-- Settles O9: the code word is an operation exactly when the pattern fits, `condRow_fits_eq_conditionHolds`. -/
theorem decoderAgreesWithTheScanner : Obligations.DecoderAgreesWithTheScanner := by
  intro s x
  cases hcond : s.conditionHolds x with
  | true => rw [decode_codeWord_of_conditionHolds hcond]; rfl
  | false =>
    obtain ⟨e, he⟩ := decode_codeWord_of_not_conditionHolds hcond
    rw [he]; rfl

/-- Settles O24: a code word that decodes is that of a sample that meets its phase's condition. -/
theorem stepRunsTheDecodedOperation : Obligations.StepRunsTheDecodedOperation := by
  intro s x i hfault hreach hdecode
  obtain ⟨rfl, hfits⟩ := decode_codeWord_eq_instr hdecode
  rw [condRow_fits_eq_conditionHolds] at hfits
  rw [sampleRunsItsPhaseOrIsDiscarded s x hfault hreach, if_pos hfits]

/-! ### Patterns of condition specs (R75) -/

theorem constraintPattern_within (ck : Channel × Constraint) : (constraintPattern ck).Within (channelMask ck.1) := by
  obtain ⟨ch, k⟩ := ck
  cases ch <;> cases k <;> exact ⟨rfl, rfl⟩

/-- The pattern of one constraint fits exactly when the constraint holds. -/
theorem constraintPattern_fits (ck : Channel × Constraint) (prevValid : Bool) (prev cur : Sample) :
    (constraintPattern ck).fits prevValid (packCond prev.d prev.c cur.d cur.c) =
      constraintHolds ck.2 prevValid (prev.on ck.1) (cur.on ck.1) := by
  obtain ⟨ch, k⟩ := ck
  obtain ⟨p, q⟩ := prev
  obtain ⟨d, c⟩ := cur
  cases ch <;> cases k <;> revert prevValid p q d c <;> decide

/-- Bits tested in disjoint sets are tested together exactly when each set is. -/
theorem and_or_eq_or_iff {w a b x y m n : CondWord} (ha : a &&& m = a) (hx : x &&& a = x) (hb : b &&& n = b)
    (hy : y &&& b = y) (hdisjoint : m &&& n = 0#4) : w &&& (a ||| b) = x ||| y ↔ w &&& a = x ∧ w &&& b = y := by
  have hbit (i : Nat) : (a.getLsbD i → m.getLsbD i) ∧ (x.getLsbD i → a.getLsbD i) ∧ (b.getLsbD i → n.getLsbD i) ∧
      (y.getLsbD i → b.getLsbD i) ∧ ¬ (m.getLsbD i ∧ n.getLsbD i) := by
    have ha := congrArg (·.getLsbD i) ha
    have hx := congrArg (·.getLsbD i) hx
    have hb := congrArg (·.getLsbD i) hb
    have hy := congrArg (·.getLsbD i) hy
    have hdisjoint := congrArg (·.getLsbD i) hdisjoint
    simp only [BitVec.getLsbD_and, BitVec.getLsbD_zero, Bool.and_eq_left_iff_imp] at ha hx hb hy hdisjoint
    exact ⟨ha, hx, hb, hy, by simpa using hdisjoint⟩
  refine ⟨fun h => ⟨?left, ?right⟩, fun ⟨hwa, hwb⟩ => ?join⟩
  case join => rw [← hwa, ← hwb, BitVec.and_or_distrib_left]
  all_goals
    apply BitVec.eq_of_getLsbD_eq
    intro i _
    have h := congrArg (·.getLsbD i) h
    simp only [BitVec.getLsbD_and, BitVec.getLsbD_or] at h ⊢
    have := hbit i
    grind

/-- Patterns over disjoint sets of bits: both fit exactly when their conjunction does. -/
theorem joinPatterns_fits {p q : CondPattern} {m n : CondWord} (hp : p.Within m) (hq : q.Within n)
    (hdisjoint : m &&& n = 0#4) (prevValid : Bool) (w : CondWord) :
    (joinPatterns p q).fits prevValid w = (p.fits prevValid w && q.fits prevValid w) := by
  have hbits : (w &&& (p.mask ||| q.mask) == p.bits ||| q.bits) =
      ((w &&& p.mask == p.bits) && (w &&& q.mask == q.bits)) := by
    rw [Bool.eq_iff_iff, Bool.and_eq_true, beq_iff_eq, beq_iff_eq, beq_iff_eq]
    exact and_or_eq_or_iff hp.mask hp.bits hq.mask hq.bits hdisjoint
  simp only [joinPatterns, CondPattern.fits, hbits]
  cases prevValid <;> simp [Bool.and_assoc, Bool.and_left_comm]

theorem joinPatterns_within {p q : CondPattern} {m : CondWord} (hp : p.Within m) (hq : q.Within m) :
    (joinPatterns p q).Within m where
  mask := by
    simp only [joinPatterns]
    rw [BitVec.and_or_distrib_right, hp.mask, hq.mask]
  bits := by
    have hor (x a b : CondWord) (hx : x &&& a = x) : x &&& (a ||| b) = x := by
      rw [← hx, BitVec.and_assoc]
      congr 1
      apply BitVec.eq_of_getLsbD_eq
      intro i _
      simp only [BitVec.getLsbD_and, BitVec.getLsbD_or]
      cases a.getLsbD i <;> rfl
    simp only [joinPatterns]
    rw [BitVec.and_or_distrib_right, hor p.bits _ _ hp.bits, BitVec.or_comm p.mask, hor q.bits _ _ hq.bits]

/-- The conjunction of a list of constraints as one pattern. -/
def patternOfAll (cs : List (Channel × Constraint)) : CondPattern :=
  cs.foldr (fun ck p => joinPatterns (constraintPattern ck) p) ⟨0#4, 0#4, false⟩

theorem patternOf_constraints (cs : List (Channel × Constraint)) :
    patternOf (.constraints cs) = some (patternOfAll cs) := rfl

theorem channelMask_and_not_other {ch other : Channel} (h : ch ≠ other) :
    channelMask other &&& ~~~channelMask ch = channelMask other := by
  cases ch with
  | data =>
    cases other with
    | data => exact absurd rfl h
    | clock => rfl
  | clock =>
    cases other with
    | data => rfl
    | clock => exact absurd rfl h

/-- Constraints on other channels test no bit of a channel. -/
theorem patternOfAll_within {ch : Channel} {cs : List (Channel × Constraint)} (h : ch ∉ cs.map (·.1)) :
    (patternOfAll cs).Within (~~~channelMask ch) := by
  induction cs with
  | nil => exact ⟨BitVec.zero_and, rfl⟩
  | cons ck cs ih =>
    rw [List.map_cons, List.mem_cons, not_or] at h
    obtain ⟨hfirst, hrest⟩ := h
    have hck := constraintPattern_within ck
    refine joinPatterns_within ⟨?_, hck.bits⟩ (ih hrest)
    rw [← hck.mask, BitVec.and_assoc, channelMask_and_not_other hfirst]

/-- The pattern of constraints on distinct channels fits exactly when all of them hold: each tests bits of its own. -/
theorem patternOfAll_fits {cs : List (Channel × Constraint)} (hdistinct : (cs.map (·.1)).Nodup) (prevValid : Bool)
    (prev cur : Sample) :
    (patternOfAll cs).fits prevValid (packCond prev.d prev.c cur.d cur.c) =
      cs.all fun ck => constraintHolds ck.2 prevValid (prev.on ck.1) (cur.on ck.1) := by
  induction cs with
  | nil => simp [patternOfAll, CondPattern.fits]
  | cons ck cs ih =>
    obtain ⟨hnew, hrest⟩ := List.nodup_cons.mp hdistinct
    have hdisjoint : channelMask ck.1 &&& ~~~channelMask ck.1 = 0#4 := BitVec.and_not_self _
    rw [List.all_cons, ← ih hrest, ← constraintPattern_fits]
    exact joinPatterns_fits (constraintPattern_within ck) (patternOfAll_within hnew) hdisjoint _ _

/-- Settles O10: `skip N` has no pattern, and a list of constraints is well formed when its channels are distinct. -/
theorem patternFitsExactlyWhenTheSpecHolds : Obligations.PatternFitsExactlyWhenTheSpecHolds := by
  intro spec p prevValid prev cur elapsed hwf hpattern
  cases spec with
  | skip n => cases hpattern
  | constraints cs =>
    obtain rfl : patternOfAll cs = p := Option.some.inj ((patternOf_constraints cs).symm.trans hpattern)
    exact patternOfAll_fits (of_decide_eq_true hwf) prevValid prev cur

/-! ### The start condition inside a frame -/

/-- R130: ADDR follows only a start condition or another address bit. -/
theorem phase_of_transition_addr {p : Phase} {cnt : BitVec 3} {dir : Bool} (h : (transition p cnt dir).1 = .addr) :
    p = .awaitStart ∨ p = .addr := by
  cases p with
  | awaitStart => exact .inl rfl
  | addr => exact .inr rfl
  | dir | valRFall | sep2 => cases h
  | sep1 => cases dir <;> cases h
  | valW | valRSkip =>
    simp only [transition] at h
    split at h <;> cases h

/-- Settles O22: no phase but AWAIT_START writes the start index or leads into ADDR, and a clock that stays at 1 is no
edge of the clock. -/
theorem startConditionInsideAFrameIsIgnored : Obligations.StartConditionInsideAFrameIsIgnored := by
  intro s t x hphase hfall hclock hstep
  have hsteady (hprev : s.prevC = true) (hskip : s.phase ≠ .valRSkip) : s.quiet.conditionHolds x = false :=
    not_conditionHolds_of_clock_high (s := s.quiet) hphase hskip hprev hclock
  rw [step_supplied, takeSample_eq] at hstep
  split at hstep
  case isTrue => cases hstep; exact ⟨rfl, id, fun _ _ => ⟨rfl, rfl, rfl⟩⟩
  case isFalse =>
  split at hstep
  case isTrue => cases hstep; exact ⟨rfl, id, fun _ _ => ⟨rfl, rfl, rfl⟩⟩
  case isFalse hreach =>
  split at hstep
  case isFalse => cases hstep; exact ⟨rfl, id, fun _ _ => ⟨rfl, rfl, rfl⟩⟩
  case isTrue hcond =>
    obtain ⟨u, hu, rfl⟩ := onNext_eq_next.mp hstep
    have hreach : s.unreachable = false := eq_false_of_ne_true hreach
    obtain ⟨v, hv, hmove⟩ := exec_condInstr_transition s.phase x.d s.quiet (bitCnt_ne_seven_of_reachable hreach)
    cases hv.symm.trans hu
    have hstart : u.startIdx = s.startIdx := startIdx_of_exec_condInstr (s := s.quiet) hphase hu
    refine ⟨hstart, fun haddr => ?_, fun hprev hskip => ?_⟩
    · exact (phase_of_transition_addr ((congrArg Prod.fst hmove).symm.trans haddr)).resolve_left hphase
    · cases (hsteady hprev hskip).symm.trans hcond

/-! ### The commit and the decoded frame -/

/-- The frame of a frame word (R71). -/
def frameOfWord (fw : FrameWord) : Frame :=
  ⟨frameAddr fw, directionOfBit (frameDir fw), frameSep1 fw, frameValue fw, frameSep2 fw⟩

@[simp] theorem frameOfWord_packFrame (a : Addr) (dir sep1 : Bool) (v : Byte) (sep2 : Bool) :
    frameOfWord (packFrame a dir sep1 v sep2) = ⟨a, directionOfBit dir, sep1, v, sep2⟩ := by
  simp only [frameOfWord, frameAddr_packFrame, frameDir_packFrame, frameSep1_packFrame, frameValue_packFrame,
    frameSep2_packFrame]

/-- R140: a classifier row is executed as the commit of the frame it encodes to, classified by its entry (log entry
11). -/
theorem exec_of_encode_frame {i : Instr} {fw : FrameWord} (h : encode i = .frame fw) (s : State) :
    exec i s = .next (s.commit (frameOfWord fw) (classifyEntry i s.session)) := by
  cases i
  case condAwaitStart | condAddr | condDir | condSep1 | condValW | condValRFall | condValRSkip | condSep2 => cases h
  all_goals
    cases h
    rw [frameOfWord_packFrame]
    rfl

/-- R74: the entry of a frame classifies alike whatever the separators. -/
theorem classifyEntry_decodeFrame_separators (a : Addr) (dir sep1 : Bool) (v : Byte) (sep2 : Bool) (ses : Session) :
    classifyEntry (decodeFrame (packFrame a dir sep1 v sep2)) ses =
      classifyEntry (decodeFrame (packFrame a dir false v false)) ses := by
  rw [decodeFrame_packFrame, decodeFrame_packFrame]
  cases dir with
  | true =>
    simp only [if_true, decodeRead, apply_ite (classifyEntry · ses)]
    rfl
  | false =>
    simp only [Bool.false_eq_true, if_false, decodeWrite, decodeRwCtl, apply_ite (classifyEntry · ses)]
    rfl

theorem directionBit_directionOfBit (b : Bool) : directionBit (directionOfBit b) = b := by
  cases b <;> rfl

/-- Settles O25: the decoded row encodes to the captured frame word, so its execution is that frame's commit, and the
classifier reads no separator. -/
theorem commitRunsTheDecodedFrame : Obligations.CommitRunsTheDecodedFrame := by
  intro d s
  rw [exec_of_encode_frame (decodeFrame_encodes _).encode, exec_condSep2, frameOfWord_packFrame,
    classifyEntry_decodeFrame_separators, classify, entryOf]
  simp only [State.transaction, State.frame, directionBit_directionOfBit]

/-! ### Presenting an operation -/

/-- The state that `State.present` prepares for a condition word, the sample left out. -/
def State.presentCond (s : State) (p : Phase) (prevValid : Bool) (w : CondWord) : State :=
  { s with
    phase := p
    prevValid := prevValid
    prevD := condPrevD w
    prevC := condPrevC w
    fault := false
    bitCnt := if p = .addr ∧ s.bitCnt = 7#3 then 0#3 else s.bitCnt }

theorem present_cond (s : State) (p : Phase) (prevValid : Bool) (w : CondWord) :
    s.present (.cond p prevValid w) = (s.presentCond p prevValid w).supplied ⟨condD w, condC w⟩ := rfl

theorem presentCond_reachable (s : State) (p : Phase) (prevValid : Bool) (w : CondWord) :
    (s.presentCond p prevValid w).unreachable = false := by
  by_cases hp : p = .addr
  · by_cases hcnt : s.bitCnt = 7#3 <;> simp [State.unreachable, State.presentCond, hp, hcnt]
  · simp [State.unreachable, State.presentCond, hp]

/-- The state that `State.present` prepares for a frame word, the sample left out. -/
def State.presentFrame (s : State) (fw : FrameWord) : State :=
  { s with
    phase := .sep2
    prevValid := true
    prevC := false
    addr := frameAddr fw
    dir := frameDir fw
    sep1 := frameSep1 fw
    value := frameValue fw
    fault := false }

theorem present_frame (s : State) (fw : FrameWord) :
    s.present (.frame fw) = (s.presentFrame fw).supplied ⟨frameSep2 fw, true⟩ := rfl

/-- Settles O26: a condition word is the code word of the prepared state (O24); a frame word is the frame that the
prepared state commits (O25). -/
theorem presentedOperationRunsNext : Obligations.PresentedOperationRunsNext := by
  intro i s hwf
  have hdecode := decodeUndoesEncode i hwf
  cases hencode : encode i with
  | cond p prevValid w =>
    rw [hencode] at hdecode
    have hword : (s.presentCond p prevValid w).codeWord ⟨condD w, condC w⟩ = .cond p prevValid w :=
      congrArg (CodeWord.cond p prevValid) (packCond_fields w)
    refine ⟨_, _, present_cond s p prevValid w, rfl, ?_⟩
    exact stepRunsTheDecodedOperation _ _ i rfl (presentCond_reachable ..) (hword ▸ hdecode)
  | frame fw =>
    have hcommits : (s.presentFrame fw).conditionHolds ⟨frameSep2 fw, true⟩ = true := rfl
    have hrow : exec i (s.presentFrame fw).quiet = exec (.condSep2 (frameSep2 fw)) (s.presentFrame fw).quiet := by
      rw [hencode, decode] at hdecode
      rw [← Decoded.instr.inj hdecode, commitRunsTheDecodedFrame]
      exact congrArg (fun w => exec (decodeFrame w) _) (packFrame_fields fw).symm
    refine ⟨_, _, present_frame s fw, rfl, ?_⟩
    rw [present_frame, hrow, sampleRunsItsPhaseOrIsDiscarded (s.presentFrame fw) _ rfl rfl, if_pos hcommits]
    rfl

/-! ### The classifier by address, direction and value -/

theorem classify_write (a : Addr) (v : Byte) (st en : Nat) (ses : Session) :
    classify ⟨a, .write, v, st, en⟩ ses = classifyEntry (decodeWrite a false v false) ses := by
  rw [classify, entryOf, directionBit, decodeFrame_packFrame, if_neg Bool.false_ne_true]

theorem classify_read (a : Addr) (v : Byte) (st en : Nat) (ses : Session) :
    classify ⟨a, .read, v, st, en⟩ ses = classifyEntry (decodeRead a false v false) ses := by
  rw [classify, entryOf, directionBit, decodeFrame_packFrame, if_pos rfl]

theorem eq_ofNat_of_toNat_eq {a : Addr} {n : Nat} (h : a.toNat = n) : a = BitVec.ofNat 7 n := by
  rw [← h, BitVec.ofNat_toNat, BitVec.setWidth_eq]

/-- Settles O38, clause by clause: an address given by arithmetic is one of the table's, where the decoder computes. -/
theorem classifierFollowsTheDecodeMap : Obligations.ClassifierFollowsTheDecodeMap := by
  intro a v ses st en
  simp only [classify_write, classify_read]
  have hindex : v.extractLsb' 0 3 = v.setWidth 3 := BitVec.eq_of_toNat_eq (by simp)
  refine ⟨fun n l ha => ?addrReg, fun ha => ?brkCtl, fun l ha => ?wrData, fun ha hv => ?select, fun ha hv => ?setAdl,
    fun ha hv => ?resetAdl, fun ha hv => ?write, fun ha hv => ?other, fun k ha => ?is, fun ha => ?wUnmatched,
    fun ha => ?stat, fun l ha => ?rdReg, fun ha => ?rdMem, fun ha => ?rUnmatched⟩
  case addrReg =>
    obtain rfl := eq_ofNat_of_toNat_eq ha
    fin_cases n <;> cases l <;> rfl
  case wrData | rdReg =>
    obtain rfl := eq_ofNat_of_toNat_eq ha
    cases l <;> rfl
  case is =>
    obtain rfl := eq_ofNat_of_toNat_eq (Nat.eq_sub_of_add_eq ha)
    fin_cases k <;> rfl
  case brkCtl | stat | rdMem => subst ha; rfl
  case setAdl | resetAdl => subst ha hv; rfl
  case select =>
    subst ha
    change classifyEntry (decodeRwCtl false v false) ses = _
    rw [decodeRwCtl_of_lt_8 hv, hindex]
    rfl
  case write =>
    subst ha
    change classifyEntry (decodeRwCtl false v false) ses = _
    rw [decodeRwCtl_of_mem_0x80 hv, hindex]
    rfl
  case other =>
    subst ha
    change classifyEntry (decodeRwCtl false v false) ses = _
    rw [decodeRwCtl_of_other ((isOtherRwCtlValue_iff v).mpr hv)]
    rfl
  case wUnmatched => rw [decodeWrite_of_not_mem ha]; rfl
  case rUnmatched => rw [decodeRead_of_not_mem ha]; rfl

/-! ### The writers of the session registers -/

/-- A frame word determines its address, direction and value. -/
theorem packFrame_inj {a a' : Addr} {dir dir' sep1 sep1' : Bool} {v v' : Byte} {sep2 sep2' : Bool}
    (h : packFrame a dir sep1 v sep2 = packFrame a' dir' sep1' v' sep2') : a = a' ∧ dir = dir' ∧ v = v' :=
  ⟨by simpa using congrArg frameAddr h, by simpa using congrArg frameDir h, by simpa using congrArg frameValue h⟩

/-- What a classification does to the session: nothing, or a write of one register by its own transactions (R185 to
R188, R200 to R202). -/
theorem classifyEntry_session_cases {i : Instr} {a : Addr} {dir sep1 : Bool} {v : Byte} {sep2 : Bool}
    (hencode : encode i = .frame (packFrame a dir sep1 v sep2)) (ses : Session) :
    (classifyEntry i ses).session = ses ∨
    (dir = false ∧ (a = 0x13#7 ∨ a = 0x14#7 ∨ a = 0x15#7) ∧ ∃ l, (classifyEntry i ses).session = ses.writeAcc l v) ∨
    (dir = false ∧ a = 0x16#7 ∧ v.toNat < 8 ∧ ∃ r, (classifyEntry i ses).session = ses.select r) ∨
    (dir = true ∧ (a = 0x10#7 ∨ a = 0x11#7 ∨ a = 0x12#7) ∧ ∃ l, (classifyEntry i ses).session = ses.observe l v) := by
  cases i with
  | wWrDataL | wWrDataH | wWrDataU =>
    obtain ⟨rfl, rfl, rfl⟩ := packFrame_inj (CodeWord.frame.inj hencode)
    exact .inr (.inl ⟨rfl, by decide, _, rfl⟩)
  | wRwCtlRead s r t =>
    obtain ⟨rfl, rfl, rfl⟩ := packFrame_inj (CodeWord.frame.inj hencode)
    exact .inr (.inr (.inl ⟨rfl, rfl, by clear hencode; revert r; decide, r, rfl⟩))
  | rRdL | rRdH | rRdU =>
    obtain ⟨rfl, rfl, rfl⟩ := packFrame_inj (CodeWord.frame.inj hencode)
    exact .inr (.inr (.inr ⟨rfl, by decide, _, rfl⟩))
  | _ => exact .inl rfl

/-- Settles O40: only a commit writes the session, and `classifyEntry_session_cases` names the transaction. -/
theorem eachSessionRegisterHasItsWriters : Obligations.EachSessionRegisterHasItsWriters := by
  intro s t x hstep
  rw [step_supplied] at hstep
  cases hcommits : s.commits x with
  | false =>
    have hsame : t.session = s.session := (takeSample_sameOutputs_of_not_commits (s := s.quiet) hcommits hstep).session
    simp [hsame]
  | true =>
    cases (takeSample_of_commits (s := s.quiet) hcommits).symm.trans hstep
    have hencode := (decodeFrame_encodes (packFrame s.addr s.dir false s.value false)).encode
    have hentry : entryOf (s.quiet.transaction (s.quiet.frame x.d)) =
        decodeFrame (packFrame s.addr s.dir false s.value false) := by
      simp only [entryOf, State.transaction, State.frame, directionBit_directionOfBit]
      rfl
    rw [State.advance_session, State.commit_session, classify, hentry, State.quiet_session]
    obtain h | ⟨hdir, haddr, l, h⟩ | ⟨hdir, haddr, hvalue, r, h⟩ | ⟨hdir, haddr, l, h⟩ :=
      classifyEntry_session_cases hencode s.session
    all_goals rw [h]
    · simp
    · simp [Session.writeAcc, hdir, haddr]
    · simp [Session.select, hdir, haddr, hvalue]
    · simp [Session.observe, hdir, haddr]

/-! ### The accumulator -/

/-- The lanes written L, H, U make the accumulator of the three bytes. -/
theorem insertLane_upper_high_low (a : Acc) (l h u : Byte) :
    insertLane .upper (insertLane .high (insertLane .low a l) h) u = u ++ h ++ l := by
  apply BitVec.eq_of_getLsbD_eq
  intro i hi
  rw [insertLane_upper_getLsbD _ _ hi, insertLane_high_getLsbD _ _ hi, insertLane_low_getLsbD _ _ hi,
    append_lanes_getLsbD]
  interval_cases i <;> simp

/-- R221, R231: the last record of a frame with an action. -/
theorem State.frameRecords_getLast? (s : State) (f : Frame) (a : Action) :
    (s.frameRecords f (some a)).getLast? = some ⟨s.startIdx, s.idx, .action, .act a⟩ := by
  rw [State.frameRecords_eq, State.actionRecords_some, List.getLast?_concat]

/-- Settles O41: the dispatch reports the accumulator as the three writes left it, and keeps it for the next. -/
theorem threeLaneWritesAssembleTheAccumulator : Obligations.ThreeLaneWritesAssembleTheAccumulator := by
  intro s b l h u r q
  refine ⟨_, _, _, _, _, rfl, rfl, rfl, rfl, rfl, ?first, ?second⟩
  all_goals
    rw [← insertLane_upper_high_low s.session.acc]
    exact State.frameRecords_getLast? ..

/-! ### The number of records -/

theorem State.actionRecords_length (s : State) (act : Option Action) :
    (s.actionRecords act).length = if act = none then 0 else 1 := by
  cases act <;> rfl

/-- Settles O43: a commit emits its frame's records, any other step none. -/
theorem commitEmitsTwentyOneOrTwentyTwoRecords : Obligations.CommitEmitsTwentyOneOrTwentyTwoRecords := by
  intro s x
  rw [step_supplied]
  cases hcommits : s.commits x with
  | true =>
    refine ⟨_, takeSample_of_commits (s := s.quiet) hcommits, ?_⟩
    have htx : s.quiet.transaction (s.quiet.frame x.d) =
        ⟨s.addr, if s.dir = true then .read else .write, s.value, s.startIdx, s.idx⟩ := rfl
    rw [State.advance_recPort, State.commit_recPort, State.frameRecords_length, State.actionRecords_length, htx,
      State.quiet_session, if_pos rfl]
    generalize (classify _ _).act = act
    cases act <;> rfl
  | false =>
    obtain ⟨t, ht⟩ := takeSample_total s.quiet x
    have hsame := takeSample_sameOutputs_of_not_commits (s := s.quiet) hcommits ht
    exact ⟨t, ht, by rw [hsame.recPort]; rfl⟩

end Sys2Proof.Machine
